-- ==== Sys2Proof/Word.lean ====
section
/-! DEFINITION. The words of the AF-3306: the bit vectors the manual treats as bits (00_scope, Conventions). -/

namespace Sys2Proof

/-- A byte of a frame, a station address, a sequence number. -/
abbrev Byte := BitVec 8

/-- A channel number, 0..1023 (R19). -/
abbrev Channel := BitVec 10

/-- Field time: a 40-bit count of milliseconds (R158). -/
abbrev Time := BitVec 40

/-- A set of spurs as a 6-bit mask, Sn at bit n (00_scope, Conventions). -/
abbrev SpurSet := BitVec 6

/-- A set of the 31 events, event n at bit n (R188). -/
abbrev EventSet := BitVec 31

/-- A saturating 16-bit counter. -/
abbrev Count16 := BitVec 16

/-- A value of an attribute (R184). -/
abbrev Value := BitVec 32

/-- A spur S0..S5. -/
abbrev SpurId := Fin 6

/-- The index of a Channel Table position (R1). -/
abbrev Position := Fin 128

end Sys2Proof
end

