-- ==== Sys2Proof/Config.lean ====
section
/-! DEFINITION. What the AF-3306 fixes for good (the sizes of 00_scope), and the free values of the model. -/

namespace Sys2Proof.Config

/-- Held frames (R59). -/
def holdCapacity : Nat := 64

/-- Copies in a spur queue (R75). -/
def spurQueueCapacity : Nat := 8

/-- Frames in a trunk class queue (R80). -/
def classQueueCapacity : Nat := 16

/-- Responses in the response queue (R81). -/
def responseCapacity : Nat := 4

/-- Requests in the request queue (R180). -/
def requestCapacity : Nat := 4

/-- Slots of the Retention Store (R146). -/
def slotCapacity : Nat := 32

/-- Bytes a receiver collects at most (R23). -/
def receiverCapacity : Nat := 248

/-- Payload bytes of a frame at most (R19). -/
def payloadCapacity : Nat := 240

/-- PART_ID (R187). -/
def partId : Value := 0x41463336

/-- FREE VALUE (log 4). Which of several steps that are due at one moment is taken first: the manual lets
either come first. Applied to `State.freeCount`. -/
opaque freeOrder : Nat → Nat

/-- FREE VALUE (log 5). Whether a running save or restore walk takes its next step at this millisecond: a step
takes a positive field time that is not bounded (R149, R154). Applied to `State.freeCount`. -/
opaque freeWalk : Nat → Bool

end Sys2Proof.Config
end

