-- ==== Sys2Proof/Syntax.lean ====
section
/-! DEFINITION. The commands of the AF-3306: one constructor for each row of spec/opcode_table.json, with the
operands of the event or operation the row names. -/

namespace Sys2Proof

/-- A symbol of a line, trunk or spur, as a receiver takes it (R21, R23). -/
inductive Symbol where
  /-- the start delimiter -/
  | start
  /-- a data byte -/
  | data (b : Byte)
  /-- the end delimiter -/
  | stop
  /-- a malformed delimiter -/
  | malformed
  /-- the line falls idle -/
  | idle
deriving DecidableEq, Repr

/-- The strap pins ADDR3..ADDR0 and START (00_scope, Pins). -/
structure Straps where
  addr : BitVec 4
  start : Bool
deriving DecidableEq, Repr

/-- The levels at the part's input pins: straps, SPUR_GATE, WAKE and the six line-senses (00_scope, Pins).
`laterStraps` are the levels that the strap pins go to by the warm resets to come of the part's own (RESTART and the
RESET action), the next one first; where none is listed they stay (R29; log 8). -/
structure Pins where
  strapPins : Straps
  gate : Bool
  wake : Bool
  sense : SpurSet
  laterStraps : List Straps
deriving DecidableEq, Repr

/-- A management request as the request queue holds it: the source address of its frame and its payload as
received (R180). -/
structure Request where
  source : Byte
  payload : List Byte
deriving DecidableEq, Repr

/-- The commands. A line event carries the symbols the line delivered, a pin event the level it goes to, a spur's
event its spur, and a management step the request it executes. -/
inductive Instr where
  /-- POWER_ON (R194). -/
  | powerOn (pins : Pins)
  /-- RSTN_LOW (R193). -/
  | rstnLow
  /-- RSTN_HIGH (R193). -/
  | rstnHigh (straps : Straps)
  /-- TRUNK_RECEPTION_END (R23). -/
  | trunkReceptionEnd (line : List Symbol)
  /-- TRUNK_TRANSMIT_COMPLETE (R30). -/
  | trunkTransmitComplete
  /-- ARBITER_TAKE (R83). -/
  | arbiterTake
  /-- SPUR_RECEPTION_END (R37). -/
  | spurReceptionEnd (n : SpurId) (line : List Symbol)
  /-- COMMAND_TRANSMIT_COMPLETE (R97). -/
  | commandTransmitComplete (n : SpurId)
  /-- CLOSE_TRANSMIT_COMPLETE (R104). -/
  | closeTransmitComplete (n : SpurId)
  /-- TEST_TRANSMIT_COMPLETE (R109). -/
  | testTransmitComplete (n : SpurId)
  /-- COMMAND_CONFLICT (R98). -/
  | commandConflict (n : SpurId)
  /-- CLOSE_CONFLICT (R104). -/
  | closeConflict (n : SpurId)
  /-- TEST_CONFLICT (R109). -/
  | testConflict (n : SpurId)
  /-- RESPONSE_WINDOW_EXPIRY (R100). -/
  | responseWindowExpiry (n : SpurId)
  /-- BURST_GAP_EXPIRY (R103). -/
  | burstGapExpiry (n : SpurId)
  /-- CLOSE_WINDOW_EXPIRY (R105). -/
  | closeWindowExpiry (n : SpurId)
  /-- ECHO_WINDOW_EXPIRY (R109). -/
  | echoWindowExpiry (n : SpurId)
  /-- ENGINE_TAKE_COPY (R96). -/
  | engineTakeCopy (n : SpurId)
  /-- CLAIM_GRANT (R174). -/
  | claimGrant (n : SpurId)
  /-- LINE_SENSE_CHANGE (R91). -/
  | lineSenseChange (n : SpurId) (level : Bool)
  /-- SETTLE_TIMER_EXPIRY (R91). -/
  | settleTimerExpiry (n : SpurId)
  /-- SPUR_GATE_CHANGE (R89). -/
  | spurGateChange (level : Bool)
  /-- WAKE_PIN_EDGE (R164). -/
  | wakePinEdge (level : Bool)
  /-- WAKE_COMPARE_FIRE (R163). -/
  | wakeCompareFire
  /-- TIME_WRAP (R158). -/
  | timeWrap
  /-- QUIET_THRESHOLD_EXPIRY (R167). -/
  | quietThresholdExpiry
  /-- ACTION_THRESHOLD_EXPIRY (R167). -/
  | actionThresholdExpiry
  /-- DORMANCY_EXPIRY (R132). -/
  | dormancyExpiry
  /-- DRAIN_COMPLETE (R134). -/
  | drainComplete
  /-- DRAIN_LIMIT_EXPIRY (R135). -/
  | drainLimitExpiry
  /-- SAVE_WALK_STEP (R149). -/
  | saveWalkStep
  /-- RESTORE_WALK_STEP (R154). -/
  | restoreWalkStep
  /-- SETTLE_WAIT_EXPIRY (R139). -/
  | settleWaitExpiry
  /-- HOLD_EXPIRY (R64). -/
  | holdExpiry
  /-- READ_ATTR (R184). -/
  | readAttr (rq : Request)
  /-- WRITE_ATTR (R184). -/
  | writeAttr (rq : Request)
  /-- WRITE_STATION_OVERRIDE (R29). -/
  | writeStationOverride (rq : Request)
  /-- CLEAR_MISS_COUNT_UP (R15). -/
  | clearMissCountUp (rq : Request)
  /-- CLEAR_MISS_COUNT_DOWN (R15). -/
  | clearMissCountDown (rq : Request)
  /-- WRITE_HOLD_MAX_AGE (R65). -/
  | writeHoldMaxAge (rq : Request)
  /-- CLEAR_HOLD_DISCARDS (R71). -/
  | clearHoldDiscards (rq : Request)
  /-- WRITE_RECORD_ENABLE (R189). -/
  | writeRecordEnable (rq : Request)
  /-- WRITE_WAKE_COMPARE_HIGH (R162). -/
  | writeWakeCompareHigh (rq : Request)
  /-- WRITE_WAKE_COMPARE_LOW (R162). -/
  | writeWakeCompareLow (rq : Request)
  /-- WRITE_GATE_POLARITY (R90). -/
  | writeGatePolarity (rq : Request)
  /-- WRITE_FORCE (R90). -/
  | writeForce (rq : Request)
  /-- WRITE_FOLLOW (R90). -/
  | writeFollow (rq : Request)
  /-- WRITE_SETTLE (R92). -/
  | writeSettle (rq : Request)
  /-- WRITE_EARLY_LEAVE (R93). -/
  | writeEarlyLeave (rq : Request)
  /-- CLEAR_SPUR_LOST (R79). -/
  | clearSpurLost (rq : Request)
  /-- WRITE_WATCH_ENABLE (R166). -/
  | writeWatchEnable (rq : Request)
  /-- WRITE_WATCH_MODE (R166). -/
  | writeWatchMode (rq : Request)
  /-- WRITE_QUIET_THRESHOLD (R167). -/
  | writeQuietThreshold (rq : Request)
  /-- WRITE_ACTION_THRESHOLD (R167). -/
  | writeActionThreshold (rq : Request)
  /-- WRITE_ENTRY_CHANNEL (R4). -/
  | writeEntryChannel (rq : Request)
  /-- DELETE_ENTRY_CHANNEL (R8). -/
  | deleteEntryChannel (rq : Request)
  /-- READ_ENTRY_CHANNEL (R9). -/
  | readEntryChannel (rq : Request)
  /-- WRITE_ENTRY_PROFILE (R119). -/
  | writeEntryProfile (rq : Request)
  /-- READ_ENTRY_PROFILE (R119). -/
  | readEntryProfile (rq : Request)
  /-- WRITE_ENTRY_TRANSITION (R121). -/
  | writeEntryTransition (rq : Request)
  /-- READ_ENTRY_TRANSITION (R121). -/
  | readEntryTransition (rq : Request)
  /-- WRITE_ENTRY_DESCRIPTOR (R144). -/
  | writeEntryDescriptor (rq : Request)
  /-- DELETE_ENTRY_DESCRIPTOR (R144). -/
  | deleteEntryDescriptor (rq : Request)
  /-- READ_ENTRY_DESCRIPTOR (R144). -/
  | readEntryDescriptor (rq : Request)
  /-- WRITE_ENTRY_LISTHEAD (R144). -/
  | writeEntryListhead (rq : Request)
  /-- READ_ENTRY_LISTHEAD (R144). -/
  | readEntryListhead (rq : Request)
  /-- WRITE_ENTRY_PATTERN (R171). -/
  | writeEntryPattern (rq : Request)
  /-- READ_ENTRY_PATTERN (R171). -/
  | readEntryPattern (rq : Request)
  /-- READ_ENTRY_RETENTION (R147). -/
  | readEntryRetention (rq : Request)
  /-- READ_CONTEXT (R56). -/
  | readContext (rq : Request)
  /-- CLEAR_CONTEXT (R57). -/
  | clearContext (rq : Request)
  /-- SET_PROFILE (R124). -/
  | setProfile (rq : Request)
  /-- MARK (R191). -/
  | mark (rq : Request)
  /-- CLEAR_EVENTS (R190). -/
  | clearEvents (rq : Request)
  /-- CLEAR_SPUR_ERRORS (R114). -/
  | clearSpurErrors (rq : Request)
  /-- RESUME_SPUR (R106). -/
  | resumeSpur (rq : Request)
  /-- CHECK_START (R173). -/
  | checkStart (rq : Request)
  /-- CHECK_STOP (R178). -/
  | checkStop (rq : Request)
  /-- RESTART (R192). -/
  | restart (rq : Request)
  /-- UNKNOWN_OP (R32). -/
  | unknownOp (rq : Request)
  /-- BAD_TABLE_REQUEST (R183). -/
  | badTableRequest (rq : Request)
deriving DecidableEq, Repr

end Sys2Proof
end

