-- ==== Sys2Proof/Machine/State.lean ====
section
/-! DEFINITION. The state of the AF-3306, block by block as 00_scope lists what each block owns; the outcomes that
stop it (none the spec gives); and the part after power-on. -/

namespace Sys2Proof.Machine

/-- The operating profiles (R117, R118); NIGHT ranks below DUSK, DUSK below DAY. -/
inductive Profile where
  | night
  | dusk
  | day
deriving DecidableEq, Repr

/-- A channel entry's direction (R2). -/
inductive Direction where
  | down
  | up
deriving DecidableEq, Repr

/-- What an entry asks for a frame when it is not live (R17). -/
inductive Otherwise where
  | drop
  | hold
  | wake
deriving DecidableEq, Repr

/-- A present policer: depth 1..63 and refill period 1..4095 ms (R2). -/
structure Policer where
  depth : Nat
  period : Nat
deriving DecidableEq, Repr

/-- An entry of the Channel Table (R2). The class is that of an UP entry, 0 on a DOWN entry; live profiles are a
mask by profile code (R34). -/
structure Entry where
  channel : Channel
  direction : Direction
  spurs : SpurSet
  cls : Fin 4
  live : BitVec 3
  otherwise : Otherwise
  policer : Option Policer
  sequenceCheck : Bool
  expectsResponse : Bool
  autoClose : Bool
deriving DecidableEq, Repr

/-- The nine frame kinds (R20). -/
inductive Kind where
  | command
  | response
  | close
  | closeAck
  | test
  | mgmtRequest
  | mgmtResponse
  | notice
  | wake
deriving DecidableEq, Repr

/-- A frame (R19). Its length is that of the payload and its check is computed (R22), so neither is stored. -/
structure Frame where
  destination : Byte
  source : Byte
  kind : Kind
  more : Bool
  echo : Bool
  channel : Channel
  sequence : Byte
  payload : List Byte
deriving DecidableEq, Repr

/-- A receiver (R23, R36); the trunk's is never `own`. -/
inductive Receiver where
  /-- WAITING -/
  | waiting
  /-- COLLECTING, with the bytes stored so far -/
  | collecting (bytes : List Byte)
  /-- OWN: the Spur Engine transmits -/
  | own
deriving DecidableEq, Repr

/-- A context (R38); `live` is its state, FRESH or LIVE (R39). -/
structure Context where
  live : Bool
  lastSequence : Option Byte
  tokens : Nat
  refillMark : Time
  passed : BitVec 32
  policed : Count16
  repeats : Count16
  gaps : Count16
  held : Count16
  refused : Count16
  lastAdmitted : Option Time
deriving DecidableEq, Repr

/-- Where a held frame arrived (R59). -/
inductive Port where
  | trunk
  | spur (n : SpurId)
deriving DecidableEq, Repr

/-- A held-frame record (R59). -/
structure HeldFrame where
  index : Position
  direction : Direction
  port : Port
  arrival : Time
  frame : Frame
deriving DecidableEq, Repr

/-- A copy in a spur queue (R75). -/
structure Copy where
  frame : Frame
  expectsResponse : Bool
  autoClose : Bool
deriving DecidableEq, Repr

/-- A MGMT_RESPONSE in the response queue: all but the sequence, which the take fills (R31, R81). -/
structure Response where
  destination : Byte
  source : Byte
  payload : List Byte
deriving DecidableEq, Repr

/-- The presence states of a spur (R91). -/
inductive Presence where
  | absent
  | arriving
  | present
  | leaving
deriving DecidableEq, Repr

/-- The states of a Spur Engine (R94). -/
inductive EngineState where
  | off
  | idle
  | sending
  | awaitingResponse
  | inBurst
  | closing
  | awaitingCloseAck
  | stalled
  | checking
deriving DecidableEq, Repr

/-- The open burst (R94). -/
structure Burst where
  channel : Channel
  station : Byte
  autoClose : Bool
  lastSequence : Byte
deriving DecidableEq, Repr

/-- What an engine's timer waits out (R94). -/
inductive TimerKind where
  | responseWindow
  | burstGap
  | closeWindow
deriving DecidableEq, Repr

/-- A running engine timer, with its length as read at its start (R111). -/
structure EngineTimer where
  kind : TimerKind
  start : Time
  length : Nat
deriving DecidableEq, Repr

/-- The engine record (R94). The outstanding frame stands as a copy: of a CLOSE or TEST the two copy values are
off. A transmission is in progress exactly while the spur's receiver is OWN (R36). -/
structure Engine where
  state : EngineState
  outstanding : Option Copy
  burst : Option Burst
  timer : Option EngineTimer
  claimWaiting : Bool
deriving DecidableEq, Repr

/-- One Spur Port (R75, R79, R88 to R94, R111, R112). -/
structure Spur where
  drive : Bool
  force : Bool
  follow : Bool
  presence : Presence
  settleTimer : Option Time
  settle : Nat
  earlyLeave : Bool
  responseWindow : Nat
  closeWindow : Nat
  burstGap : Nat
  rx : Receiver
  queue : List Copy
  lost : Count16
  errors : BitVec 11
  engine : Engine
deriving DecidableEq, Repr

/-- A record of the Profile Table (R118). -/
structure ProfileRecord where
  driveMask : SpurSet
  timeout : Nat
  target : Profile
deriving DecidableEq, Repr

/-- A record of the Transition Table (R120); `discard` is the hold policy, KEEP when clear. -/
structure TransitionRecord where
  permitted : Bool
  saveList : Option (Fin 4)
  restore : Bool
  drainLimit : Nat
  settleWait : Nat
  discard : Bool
  refusalMark : Option (Fin 4)
deriving DecidableEq, Repr

/-- The phases in which a transition can rest between events (R133): APPLY ends in the event that enters it. -/
inductive Phase where
  | drain
  | save
  | restore
  | settle
deriving DecidableEq, Repr

/-- The transition in flight (R117, R129). -/
structure Transition where
  source : Profile
  target : Profile
  phase : Phase
  closing : SpurSet
  timer : Option Time
deriving DecidableEq, Repr

/-- The sources of profile requests (R123). -/
inductive Source where
  | management
  | wakePin
  | wakeTime
  | wakeFrame
  | dormancy
  | trunkWatch
deriving DecidableEq, Repr

/-- A profile request (R123). -/
structure ProfileRequest where
  source : Source
  target : Profile
deriving DecidableEq, Repr

/-- The causes of refusal (R33). -/
inductive Cause where
  | notPermitted
  | holdHigh
  | checkRunning
  | malformedList
  | spurNotReady
deriving DecidableEq, Repr

/-- The last-refusal record when it is not empty (R128). -/
structure RefusalRecord where
  source : Source
  target : Profile
  cause : Cause
  time : Time
deriving DecidableEq, Repr

/-- A filled descriptor (R142); `next` is none for END. -/
structure Descriptor where
  first : Position
  count : Nat
  next : Option (Fin 16)
deriving DecidableEq, Repr

/-- A valid retention slot (R146). -/
structure Slot where
  index : Position
  context : Context
  superseded : Bool
deriving DecidableEq, Repr

/-- The causes of captures (R160). -/
inductive CaptureCause where
  | none
  | transitionStart
  | transitionEnd
  | wakePin
  | mark
  | warmReset
  | trunkQuiet
deriving DecidableEq, Repr

/-- A capture record (R160). -/
structure Capture where
  time : Time
  cause : CaptureCause
deriving DecidableEq, Repr

/-- The actions of the silence watch (R168). -/
inductive WatchAction where
  | none
  | fallback
  | reset
deriving DecidableEq, Repr

/-- The stages of the silence watch (R165). -/
inductive WatchStage where
  | off
  | counting
  | quiet
  | done
deriving DecidableEq, Repr

/-- The pattern kinds of a line check (R170). -/
inductive Pattern where
  | zeros
  | ones
  | alternate
  | count
  | pseudo
  | custom
deriving DecidableEq, Repr

/-- The outcomes of a line check (R170). -/
inductive CheckOutcome where
  | none
  | waiting
  | running
  | done
  | stopped
  | aborted
deriving DecidableEq, Repr

/-- The five trunk error counters (R25). -/
structure TrunkErrors where
  check : Count16
  ends : Count16
  short : Count16
  badKind : Count16
  wrongStation : Count16
deriving DecidableEq, Repr

/-- The Trunk Port (R23, R25, R30, R31); `tx` is none while FREE, the frame while SENDING. -/
structure TrunkPort where
  rx : Receiver
  tx : Option Frame
  sequence : Byte
  errors : TrunkErrors
deriving DecidableEq, Repr

/-- The Admission Unit (R15, R38, R40); `store` is none while the Context Store is powered down. -/
structure AdmissionUnit where
  store : Option (Vector Context 128)
  forwardUp : Bool
  floodDown : Bool
  missUp : Count16
  missDown : Count16
deriving DecidableEq, Repr

/-- The Hold Queue (R59, R62, R64, R71); the head of `records` is the oldest. -/
structure HoldQueue where
  records : List HeldFrame
  marks : Vector Nat 4
  maxAge : Nat
  discards : Count16
deriving DecidableEq, Repr

/-- The Trunk Arbiter (R80 to R82). -/
structure Arbiter where
  classQueues : Vector (List Frame) 4
  responses : List Response
  notice : Bool
deriving DecidableEq, Repr

/-- What the six Spur Ports share (R88). -/
structure SpurLines where
  driveMask : SpurSet
  gateInverted : Bool
deriving DecidableEq, Repr

/-- The Profile Controller (R117 to R120, R123). -/
structure ProfileController where
  records : Vector ProfileRecord 3
  transitions : Vector TransitionRecord 6
  applied : Profile
  admission : Profile
  transition : Option Transition
  request : Option ProfileRequest
  lastRefusal : Option RefusalRecord
  dormancy : Option Time
  wakeTarget : Profile
deriving DecidableEq, Repr

/-- The Retention Engine (R142 to R157). The valid slots are slots 0 to k - 1 (R146), so the directory is the list
of them. `saveRest` holds the positions of the walk order that the save walk has not yet examined. -/
structure Retention where
  descriptors : Vector (Option Descriptor) 16
  heads : Vector (Option (Fin 16)) 4
  slots : List Slot
  saveRest : List Position
  restoreNext : Nat
  restoreSkipped : Nat
  saveLost : Count16
  skipCount : Nat
deriving DecidableEq, Repr

/-- The Field Time Unit but for the watch (R158, R160, R162, R164). -/
structure Clock where
  now : Time
  current : Capture
  previous : Capture
  compareTarget : Time
  compareArmed : Bool
  wakeActiveLow : Bool
deriving DecidableEq, Repr

/-- The trunk silence watch (R165). -/
structure Watch where
  enabled : Bool
  direct : Bool
  quietThreshold : Nat
  actionThreshold : Nat
  action : WatchAction
  fallback : Profile
  stage : WatchStage
  episodeStart : Time
  quietTime : Time
deriving DecidableEq, Repr

/-- The Line Check Unit (R170, R171). -/
structure LineCheck where
  target : SpurId
  station : Byte
  pattern : Pattern
  length : Nat
  count : Nat
  sent : Count16
  mismatched : Count16
  missing : Count16
  outcome : CheckOutcome
  number : Nat
  register : BitVec 9
  expected : Option Frame
  custom : Vector Byte 16
deriving DecidableEq, Repr

/-- The Management Agent (R29, R180, R186, R188, R189, R192). -/
structure Agent where
  requests : List Request
  restartDue : Bool
  spurSelect : SpurSet
  status : EventSet
  record : EventSet
  notify : EventSet
  overrideAddress : Byte
  overrideEnabled : Bool
  straps : Straps
deriving DecidableEq, Repr

/-- The whole part. `freeCount` is the model's own: the index of the next free value (log 4). -/
structure State where
  pins : Pins
  held : Bool
  trunk : TrunkPort
  table : Vector (Option Entry) 128
  admission : AdmissionUnit
  hold : HoldQueue
  arbiter : Arbiter
  spurLines : SpurLines
  spurs : Vector Spur 6
  profiles : ProfileController
  retention : Retention
  clock : Clock
  watch : Watch
  check : LineCheck
  agent : Agent
  freeCount : Nat
  pending : List Instr
deriving DecidableEq, Repr

/-- Why the machine stops with a fault. The manual gives the part no such stop. -/
inductive Fault where
  /-- Raised by nothing: no event of the manual stops the part (safe). -/
  | stopped
deriving DecidableEq, Repr

/-- Why a command has no meaning. -/
inductive Refusal where
  /-- Raised by `exec` for a command not yet modelled; every command has its meaning, so no arm raises it (safe). -/
  | notModelled (mnemonic : String)
deriving DecidableEq, Repr

/-- What a command answers. -/
abbrev Result := Host.Outcome State Fault Refusal

/-- A context just made FRESH at field time 0 for an empty position (R39). -/
def Context.blank : Context :=
  ⟨false, none, 0, 0, 0, 0, 0, 0, 0, 0, none⟩

/-- An engine that is OFF (R116). -/
def Engine.blank : Engine :=
  ⟨.off, none, none, none, false⟩

/-- A Spur Port with its settings at their defaults, undriven (R90, R92, R93, R111, R116). -/
def Spur.blank : Spur :=
  ⟨false, true, false, .absent, none, 16, false, 50, 20, 100, .waiting, [], 0, 0, Engine.blank⟩

/-- A record of the Transition Table at its defaults (R120). -/
def TransitionRecord.default : TransitionRecord :=
  ⟨true, none, false, 1000, 100, false, none⟩

/-- The levels at the pins in `State.reset` (log 9). -/
def Pins.low : Pins := ⟨⟨0, false⟩, false, false, 0, []⟩

/-- The AF-3306 right after power-on with every pin low and no station on a line: START profile DAY, every spur
driven and ABSENT, RESTARTED recorded and its notice asked for (R116 to R120, R194; log 9, 11). -/
def State.reset : State where
  pins := Pins.low
  held := false
  trunk := ⟨.waiting, none, 0, ⟨0, 0, 0, 0, 0⟩⟩
  table := Vector.replicate 128 none
  admission := ⟨some (Vector.replicate 128 Context.blank), false, false, 0, 0⟩
  hold := ⟨[], #v[16, 32, 48, 60], 0, 0⟩
  arbiter := ⟨Vector.replicate 4 [], [], true⟩
  spurLines := ⟨0x3F, false⟩
  spurs := Vector.replicate 6 { Spur.blank with drive := true }
  profiles :=
    { records := #v[⟨0, 0, .night⟩, ⟨0x3F, 0, .night⟩, ⟨0x3F, 0, .dusk⟩]
      transitions := Vector.replicate 6 TransitionRecord.default
      applied := .day
      admission := .day
      transition := none
      request := none
      lastRefusal := none
      dormancy := some 0
      wakeTarget := .day }
  retention := ⟨Vector.replicate 16 none, Vector.replicate 4 none, [], [], 0, 0, 0, 0⟩
  clock := ⟨0, ⟨0, .none⟩, ⟨0, .none⟩, 0, false, false⟩
  watch := ⟨false, false, 30000, 30000, .none, .dusk, .off, 0, 0⟩
  check := ⟨0, 0, .alternate, 16, 100, 0, 0, 0, .none, 0, 0, none, Vector.replicate 16 0⟩
  agent := ⟨[], false, 1, 1, 0x7FFFFFFF, 1, 0, false, ⟨0, false⟩⟩
  freeCount := 0
  pending := []

end Sys2Proof.Machine
end

