-- ==== Sys2Proof/Machine/Flags.lean ====
section
/-! DEFINITION. The flags of the part: the 31 events with their recording and their notice requests (R188 to R190),
and the eleven spur error flags with the spur event (R112). -/

namespace Sys2Proof.Machine

/-- The events (R188). -/
inductive Event where
  | restarted
  | transitionStart
  | transitionEnd
  | transitionRefused
  | drainExpired
  | saveOverflow
  | restoreSkipped
  | holdMark (m : Fin 4)
  | holdOverflow
  | holdExpired
  | wakePin
  | wakeTime
  | wakeFrame
  | trunkQuiet
  | trunkAction
  | trunkError
  | queueDrop
  | mgmtOverflow
  | checkDone
  | checkError
  | timeWrap
  | spurError (n : SpurId)
  | presenceChange
deriving DecidableEq, Repr

/-- The number of an event (R188). -/
def Event.number (e : Event) : Nat :=
  match e with
  | .restarted => 0
  | .transitionStart => 1
  | .transitionEnd => 2
  | .transitionRefused => 3
  | .drainExpired => 4
  | .saveOverflow => 5
  | .restoreSkipped => 6
  | .holdMark m => 7 + m.val
  | .holdOverflow => 11
  | .holdExpired => 12
  | .wakePin => 13
  | .wakeTime => 14
  | .wakeFrame => 15
  | .trunkQuiet => 16
  | .trunkAction => 17
  | .trunkError => 18
  | .queueDrop => 19
  | .mgmtOverflow => 20
  | .checkDone => 21
  | .checkError => 22
  | .timeWrap => 23
  | .spurError n => 24 + n.val
  | .presenceChange => 30

/-- The set of one event, its bit set alone. -/
def Event.bit (e : Event) : EventSet := 1 <<< e.number

/-- The event status after an event is raised: its flag is set when it is record-enabled (R188). -/
def raisedStatus (e : Event) (a : Agent) : EventSet :=
  a.status ||| (e.bit &&& a.record)

/-- The notice flag after an event is raised: set when the event's status flag goes from clear to set while the
event is notify-enabled (R190, R82). -/
def raisedNotice (e : Event) (a : Agent) (notice : Bool) : Bool :=
  notice || (e.bit &&& a.record &&& ~~~a.status &&& a.notify) != 0

/-- An event is raised in the Management Agent (R188, R190). -/
def raise (e : Event) (s : State) : State :=
  { s with
    agent := { s.agent with status := raisedStatus e s.agent }
    arbiter := { s.arbiter with notice := raisedNotice e s.agent s.arbiter.notice } }

/-- The eleven flags of the spur error status (R112). -/
inductive SpurFlag where
  | check
  | timeout
  | ends
  | stray
  | unsolicited
  | burstTimeout
  | lost
  | closeNotSent
  | closeCheck
  | closeTimeout
  | closeEnd
deriving DecidableEq, Repr

/-- The bit of a flag in SPUR_STATUS (R113). -/
def SpurFlag.number (f : SpurFlag) : Nat :=
  match f with
  | .check => 0
  | .timeout => 1
  | .ends => 2
  | .stray => 3
  | .unsolicited => 4
  | .burstTimeout => 5
  | .lost => 6
  | .closeNotSent => 7
  | .closeCheck => 8
  | .closeTimeout => 9
  | .closeEnd => 10

/-- The mask of one flag. -/
def SpurFlag.bit (f : SpurFlag) : BitVec 11 := 1 <<< f.number

/-- One Spur Port changed, the rest as it was. -/
def modifySpur (n : SpurId) (f : Spur → Spur) (s : State) : State :=
  { s with spurs := s.spurs.set n (f s.spurs[n]) }

/-- An occurrence sets spur error flags: it raises SPUR_ERRORn once when at least one of them goes from clear to set
(R112). -/
def setSpurFlags (n : SpurId) (flags : BitVec 11) (s : State) : State :=
  let before := s.spurs[n].errors
  let s := modifySpur n (fun sp => { sp with errors := sp.errors ||| flags }) s
  if flags &&& ~~~before = 0 then s else raise (.spurError n) s

end Sys2Proof.Machine
end

