-- ==== Sys2Proof/Decode.lean ====
section
/-! DEFINITION. Which row of spec/opcode_table.json a management request spells (R32, R183, R185), and the table's
own words (none: no row gives bits). -/

namespace Sys2Proof

/-- The operation code of a request (R32): byte 0. -/
def Request.operation (rq : Request) : Byte := rq.payload.headD 0

/-- The tag of a request (R32): byte 1. -/
def Request.tag (rq : Request) : Byte := rq.payload.tail.headD 0

/-- The argument bytes of a request (R32): from byte 2 on. -/
def Request.arguments (rq : Request) : List Byte := rq.payload.drop 2

/-- The row of a WRITE_ATTR whose arguments are all there, by attribute identifier and index (R185): an attribute
with a behaviour of its own has its own row (log 17). -/
def Instr.ofWriteAttr (rq : Request) (identifier index : Nat) : Instr :=
  match identifier, index with
  | 0x0003, _ => .writeStationOverride rq
  | 0x0022, _ => .clearMissCountUp rq
  | 0x0023, _ => .clearMissCountDown rq
  | 0x0034, _ => .writeHoldMaxAge rq
  | 0x0036, _ => .clearHoldDiscards rq
  | 0x0041, _ => .writeRecordEnable rq
  | 0x0053, 0 => .writeWakeCompareHigh rq
  | 0x0053, 1 => .writeWakeCompareLow rq
  | 0x0055, _ => .writeGatePolarity rq
  | 0x0056, 0 => .writeWatchEnable rq
  | 0x0056, 1 => .writeWatchMode rq
  | 0x0056, 2 => .writeQuietThreshold rq
  | 0x0056, 3 => .writeActionThreshold rq
  | 0x0100, _ => .writeForce rq
  | 0x0101, _ => .writeFollow rq
  | 0x0104, _ => .writeSettle rq
  | 0x0105, _ => .writeEarlyLeave rq
  | 0x010C, _ => .clearSpurLost rq
  | _, _ => .writeAttr rq

/-- The row of a READ_ENTRY by table code (R32, R183). -/
def Instr.ofReadEntry (rq : Request) (table : Nat) : Instr :=
  match table with
  | 1 => .readEntryChannel rq
  | 2 => .readEntryProfile rq
  | 3 => .readEntryTransition rq
  | 4 => .readEntryDescriptor rq
  | 5 => .readEntryListhead rq
  | 6 => .readEntryPattern rq
  | 7 => .readEntryRetention rq
  | _ => .badTableRequest rq

/-- The row of a WRITE_ENTRY by table code (R32, R183): RETENTION takes no WRITE_ENTRY. -/
def Instr.ofWriteEntry (rq : Request) (table : Nat) : Instr :=
  match table with
  | 1 => .writeEntryChannel rq
  | 2 => .writeEntryProfile rq
  | 3 => .writeEntryTransition rq
  | 4 => .writeEntryDescriptor rq
  | 5 => .writeEntryListhead rq
  | 6 => .writeEntryPattern rq
  | _ => .badTableRequest rq

/-- The row of a DELETE_ENTRY by table code (R32, R183): CHANNEL and DESCRIPTOR alone take it. -/
def Instr.ofDeleteEntry (rq : Request) (table : Nat) : Instr :=
  match table with
  | 1 => .deleteEntryChannel rq
  | 4 => .deleteEntryDescriptor rq
  | _ => .badTableRequest rq

/-- The table code of a table operation, 0 (no table) when the byte is missing (log 17). -/
def Request.table (rq : Request) : Nat := (rq.arguments.headD 0).toNat

/-- The row that the execution of a request is, by its operation code (R32). -/
def Instr.ofRequest (rq : Request) : Instr :=
  match rq.operation.toNat with
  | 0x01 => .readAttr rq
  | 0x02 =>
    match rq.arguments with
    | hi :: lo :: index :: _ :: _ :: _ :: _ :: _ => .ofWriteAttr rq (hi ++ lo).toNat index.toNat
    | _ => .writeAttr rq
  | 0x03 => .ofReadEntry rq rq.table
  | 0x04 => .ofWriteEntry rq rq.table
  | 0x05 => .ofDeleteEntry rq rq.table
  | 0x06 => .readContext rq
  | 0x07 => .clearContext rq
  | 0x08 => .setProfile rq
  | 0x09 => .mark rq
  | 0x0A => .clearEvents rq
  | 0x0B => .clearSpurErrors rq
  | 0x0C => .resumeSpur rq
  | 0x0D => .checkStart rq
  | 0x0E => .checkStop rq
  | 0x0F => .restart rq
  | _ => .unknownOp rq

/-- The command a word of the opcode table spells. The table gives no row any bits (its rows are operations and
events, not words), so no word spells a command. -/
def decodeTableWord (_nbits _w : Nat) : Option Instr := none

end Sys2Proof
end

