-- ==== Sys2Proof/Machine/Operands.lean ====
section
/-! DEFINITION. The operands of the management requests and the codes of everything a frame or an attribute carries:
statuses, profiles, attributes with their indexes and access, and the images of entries and contexts (R29 to R35,
R185). -/

namespace Sys2Proof.Machine

/-! ## Numbers in line order (00_scope: most significant byte first) -/

/-- A number in two bytes. -/
def bytes16 (v : BitVec 16) : List Byte :=
  [v.extractLsb' 8 8, v.extractLsb' 0 8]

/-- A number in four bytes. -/
def bytes32 (v : BitVec 32) : List Byte :=
  [v.extractLsb' 24 8, v.extractLsb' 16 8, v.extractLsb' 8 8, v.extractLsb' 0 8]

/-- A field time in five bytes. -/
def bytes40 (v : Time) : List Byte :=
  v.extractLsb' 32 8 :: bytes32 (v.extractLsb' 0 32)

/-- A Nat in one byte. -/
def byteOf (n : Nat) : Byte := BitVec.ofNat 8 n

/-- A flag in one byte. -/
def byteOfFlag (b : Bool) : Byte := if b then 1 else 0

/-- A two-valued field of an image: 0 or 1, anything else is out of range (R34). -/
def flagOfByte (b : Byte) : Option Bool :=
  match b.toNat with
  | 0 => some false
  | 1 => some true
  | _ => none

/-! ## Codes -/

/-- The code of a profile, which is also its rank (R117, R183: NIGHT 0, DUSK 1, DAY 2). -/
def Profile.code (p : Profile) : Nat :=
  match p with
  | .night => 0
  | .dusk => 1
  | .day => 2

/-- The profile of a code. -/
def Profile.ofCode (n : Nat) : Option Profile :=
  match n with
  | 0 => some .night
  | 1 => some .dusk
  | 2 => some .day
  | _ => none

/-- The index of a profile's record in the Profile Table (R118). -/
def Profile.index (p : Profile) : Fin 3 :=
  match p with
  | .night => 0
  | .dusk => 1
  | .day => 2

/-- The index of the transition record C→T (R120). The three pairs of equal profiles have no record; no request
asks for one (R125), and they are given DAY→DUSK's place. -/
def transitionIndex (c t : Profile) : Fin 6 :=
  match c, t with
  | .day, .dusk => 0
  | .day, .night => 1
  | .dusk, .day => 2
  | .dusk, .night => 3
  | .night, .day => 4
  | .night, .dusk => 5
  | .night, .night => 0
  | .dusk, .dusk => 0
  | .day, .day => 0

/-- The source of a transition record by index (R120). -/
def transitionSource (i : Fin 6) : Profile :=
  match i with
  | 0 => .day
  | 1 => .day
  | 2 => .dusk
  | 3 => .dusk
  | 4 => .night
  | 5 => .night

/-- The target of a transition record by index (R120). -/
def transitionTarget (i : Fin 6) : Profile :=
  match i with
  | 0 => .dusk
  | 1 => .night
  | 2 => .day
  | 3 => .night
  | 4 => .day
  | 5 => .dusk

/-- The code of a frame kind (R20). -/
def Kind.code (k : Kind) : BitVec 4 :=
  match k with
  | .command => 1
  | .response => 2
  | .close => 3
  | .closeAck => 4
  | .test => 5
  | .mgmtRequest => 6
  | .mgmtResponse => 7
  | .notice => 8
  | .wake => 9

/-- The kind of a code; the other codes are unknown kinds (R20). -/
def Kind.ofCode (c : BitVec 4) : Option Kind :=
  match c.toNat with
  | 1 => some .command
  | 2 => some .response
  | 3 => some .close
  | 4 => some .closeAck
  | 5 => some .test
  | 6 => some .mgmtRequest
  | 7 => some .mgmtResponse
  | 8 => some .notice
  | 9 => some .wake
  | _ => none

/-- The code of a request's source (R123). -/
def Source.code (x : Source) : Nat :=
  match x with
  | .management => 0
  | .wakePin => 1
  | .wakeTime => 2
  | .wakeFrame => 3
  | .dormancy => 4
  | .trunkWatch => 5

/-- The code of a cause of refusal (R33). -/
def Cause.code (c : Cause) : Nat :=
  match c with
  | .notPermitted => 1
  | .holdHigh => 2
  | .checkRunning => 3
  | .malformedList => 4
  | .spurNotReady => 5

/-- The code of a phase (R133); NONE is 0. -/
def Phase.code (p : Phase) : Nat :=
  match p with
  | .drain => 1
  | .save => 2
  | .restore => 4
  | .settle => 5

/-- The code of a capture's cause (R160). -/
def CaptureCause.code (c : CaptureCause) : Nat :=
  match c with
  | .none => 0
  | .transitionStart => 1
  | .transitionEnd => 2
  | .wakePin => 3
  | .mark => 4
  | .warmReset => 5
  | .trunkQuiet => 6

/-- The code of ENGINE_STATE (R115). -/
def EngineState.code (e : EngineState) : Nat :=
  match e with
  | .off => 0
  | .idle => 1
  | .sending => 2
  | .awaitingResponse => 3
  | .inBurst => 4
  | .closing => 5
  | .awaitingCloseAck => 6
  | .stalled => 7
  | .checking => 8

/-- The code of PRESENCE (R115). -/
def Presence.code (p : Presence) : Nat :=
  match p with
  | .absent => 0
  | .arriving => 1
  | .present => 2
  | .leaving => 3

/-- The code of a watch action (R165). -/
def WatchAction.code (a : WatchAction) : Nat :=
  match a with
  | .none => 0
  | .fallback => 1
  | .reset => 2

/-- The watch action of a code (R165). -/
def WatchAction.ofCode (n : Nat) : Option WatchAction :=
  match n with
  | 0 => some .none
  | 1 => some .fallback
  | 2 => some .reset
  | _ => Option.none

/-- The code of a watch stage (R165). -/
def WatchStage.code (a : WatchStage) : Nat :=
  match a with
  | .off => 0
  | .counting => 1
  | .quiet => 2
  | .done => 3

/-- The code of a pattern kind (R170). -/
def Pattern.code (p : Pattern) : Nat :=
  match p with
  | .zeros => 0
  | .ones => 1
  | .alternate => 2
  | .count => 3
  | .pseudo => 4
  | .custom => 5

/-- The pattern kind of a code (R170). -/
def Pattern.ofCode (n : Nat) : Option Pattern :=
  match n with
  | 0 => some .zeros
  | 1 => some .ones
  | 2 => some .alternate
  | 3 => some .count
  | 4 => some .pseudo
  | 5 => some .custom
  | _ => none

/-- The code of a line check outcome (R170). -/
def CheckOutcome.code (o : CheckOutcome) : Nat :=
  match o with
  | .none => 0
  | .waiting => 1
  | .running => 2
  | .done => 3
  | .stopped => 4
  | .aborted => 5

/-! ## Statuses -/

/-- The statuses of a response (R33, R182). -/
inductive Status where
  | ok
  | busy
  | badTable
  | badIndex
  | badValue
  | duplicate
  | refused (cause : Cause)
  | pending
  | noContext
  | unknownOp
deriving DecidableEq, Repr

/-- The status byte and, for REFUSED, the cause byte (R33). -/
def Status.bytes (x : Status) : List Byte :=
  match x with
  | .ok => [0]
  | .busy => [1]
  | .badTable => [2]
  | .badIndex => [3]
  | .badValue => [4]
  | .duplicate => [5]
  | .refused c => [6, byteOf c.code]
  | .pending => [7]
  | .noContext => [8]
  | .unknownOp => [9]

/-! ## Attributes -/

/-- The attributes (R185). -/
inductive Attr where
  | partId
  | station
  | stationOverride
  | straps
  | profile
  | phase
  | pending
  | lastRefusal
  | wakeTarget
  | missPolicyUp
  | missPolicyDown
  | missCountUp
  | missCountDown
  | holdMark (m : Fin 4)
  | holdMaxAge
  | holdOccupancy
  | holdDiscards
  | eventStatus
  | recordEnable
  | notifyEnable
  | fieldTime
  | captureCurrent
  | capturePrevious
  | wakeCompare
  | wakePinPolarity
  | gatePolarity
  | trunkWatch
  | trunkErrors
  | saveLost
  | restoreSkipCount
  | lineCheck
  | spurSelect
  | force
  | follow
  | drive
  | presence
  | settle
  | earlyLeave
  | responseWindow
  | closeWindow
  | burstGap
  | spurStatus
  | engineState
  | queueDepth
  | spurLost
deriving DecidableEq, Repr

/-- The attribute of an identifier (R185). -/
def Attr.ofIdentifier (n : Nat) : Option Attr :=
  match n with
  | 0x0001 => some .partId
  | 0x0002 => some .station
  | 0x0003 => some .stationOverride
  | 0x0004 => some .straps
  | 0x0010 => some .profile
  | 0x0011 => some .phase
  | 0x0012 => some .pending
  | 0x0013 => some .lastRefusal
  | 0x0014 => some .wakeTarget
  | 0x0020 => some .missPolicyUp
  | 0x0021 => some .missPolicyDown
  | 0x0022 => some .missCountUp
  | 0x0023 => some .missCountDown
  | 0x0030 => some (.holdMark 0)
  | 0x0031 => some (.holdMark 1)
  | 0x0032 => some (.holdMark 2)
  | 0x0033 => some (.holdMark 3)
  | 0x0034 => some .holdMaxAge
  | 0x0035 => some .holdOccupancy
  | 0x0036 => some .holdDiscards
  | 0x0040 => some .eventStatus
  | 0x0041 => some .recordEnable
  | 0x0042 => some .notifyEnable
  | 0x0050 => some .fieldTime
  | 0x0051 => some .captureCurrent
  | 0x0052 => some .capturePrevious
  | 0x0053 => some .wakeCompare
  | 0x0054 => some .wakePinPolarity
  | 0x0055 => some .gatePolarity
  | 0x0056 => some .trunkWatch
  | 0x0060 => some .trunkErrors
  | 0x0061 => some .saveLost
  | 0x0062 => some .restoreSkipCount
  | 0x0070 => some .lineCheck
  | 0x0080 => some .spurSelect
  | 0x0100 => some .force
  | 0x0101 => some .follow
  | 0x0102 => some .drive
  | 0x0103 => some .presence
  | 0x0104 => some .settle
  | 0x0105 => some .earlyLeave
  | 0x0106 => some .responseWindow
  | 0x0107 => some .closeWindow
  | 0x0108 => some .burstGap
  | 0x0109 => some .spurStatus
  | 0x010A => some .engineState
  | 0x010B => some .queueDepth
  | 0x010C => some .spurLost
  | _ => none

/-- How many indexes an attribute takes, from 0 (R185). -/
def Attr.indexes (a : Attr) : Nat :=
  match a with
  | .profile => 2
  | .phase => 4
  | .pending => 2
  | .lastRefusal => 3
  | .holdOccupancy => 8
  | .fieldTime => 2
  | .captureCurrent => 3
  | .capturePrevious => 3
  | .wakeCompare => 2
  | .trunkWatch => 7
  | .trunkErrors => 5
  | .lineCheck => 9
  | _ => 1

/-- Whether an index of an attribute is writable (R185). -/
def Attr.writable (a : Attr) (index : Nat) : Bool :=
  match a with
  | .stationOverride => true
  | .wakeTarget => true
  | .missPolicyUp => true
  | .missPolicyDown => true
  | .missCountUp => true
  | .missCountDown => true
  | .holdMark _ => true
  | .holdMaxAge => true
  | .holdDiscards => true
  | .recordEnable => true
  | .notifyEnable => true
  | .wakeCompare => true
  | .wakePinPolarity => true
  | .gatePolarity => true
  | .trunkWatch => decide (index < 6)
  | .lineCheck => decide (index < 5)
  | .spurSelect => true
  | .force => true
  | .follow => true
  | .settle => true
  | .earlyLeave => true
  | .responseWindow => true
  | .closeWindow => true
  | .burstGap => true
  | .spurLost => true
  | _ => false

/-- A value taken as a whole 32-bit number that must be 0 or 1. -/
def flagOfValue (v : Value) : Option Bool :=
  match v.toNat with
  | 0 => some false
  | 1 => some true
  | _ => none

/-- The identifier and index of a READ_ATTR (R32); none when argument bytes are missing. -/
def readOperands (rq : Request) : Option (Nat × Nat) :=
  match rq.arguments with
  | hi :: lo :: index :: _ => some ((hi ++ lo).toNat, index.toNat)
  | _ => none

/-- The identifier, index and value of a WRITE_ATTR (R32); none when argument bytes are missing. -/
def writeOperands (rq : Request) : Option (Nat × Nat × Value) :=
  match rq.arguments with
  | hi :: lo :: index :: a :: b :: c :: d :: _ =>
    some ((hi ++ lo).toNat, index.toNat, a ++ b ++ c ++ d)
  | _ => none

/-- The index of a READ_ENTRY or DELETE_ENTRY (R32); none when argument bytes are missing. -/
def entryIndex (rq : Request) : Option Nat :=
  match rq.arguments with
  | _ :: index :: _ => some index.toNat
  | _ => none

/-- The index and image of a WRITE_ENTRY of a table with images of `length` bytes (R32, R183); none when argument
bytes are missing. Bytes after the image are ignored. -/
def entryImage (rq : Request) (length : Nat) : Option (Nat × List Byte) :=
  match rq.arguments with
  | _ :: index :: image =>
    if length ≤ image.length then some (index.toNat, image.take length) else none
  | _ => none

/-- The one argument byte of SET_PROFILE, READ_CONTEXT, CLEAR_CONTEXT and the spur-mask operations (R32). -/
def byteOperand (rq : Request) : Option Byte := rq.arguments.head?

/-- The event mask of CLEAR_EVENTS (R32). -/
def maskOperand (rq : Request) : Option Value :=
  match rq.arguments with
  | a :: b :: c :: d :: _ => some (a ++ b ++ c ++ d)
  | _ => none

/-! ## Images (R34) -/

/-- The length of a table's image by table code (R34); 0 for a code outside 1..7. -/
def imageLength (table : Nat) : Nat :=
  match table with
  | 1 => 13
  | 2 => 4
  | 3 => 9
  | 4 => 3
  | 5 => 1
  | 6 => 1
  | 7 => 31
  | _ => 0

/-- The direction of a code (R34). -/
def Direction.ofByte (b : Byte) : Option Direction :=
  match b.toNat with
  | 0 => some .down
  | 1 => some .up
  | _ => none

/-- The code of a direction (R34). -/
def Direction.byte (d : Direction) : Byte :=
  match d with
  | .down => 0
  | .up => 1

/-- The otherwise-action of a code (R34). -/
def Otherwise.ofByte (b : Byte) : Option Otherwise :=
  match b.toNat with
  | 0 => some .drop
  | 1 => some .hold
  | 2 => some .wake
  | _ => none

/-- The code of an otherwise-action (R34). -/
def Otherwise.byte (o : Otherwise) : Byte :=
  match o with
  | .drop => 0
  | .hold => 1
  | .wake => 2

/-- The policer of an image (R2, R5): depth 0 is absent whatever the period; a depth of 1..63 needs a period of
1..4095; anything else is out of range. -/
def Policer.ofImage (depth period : Nat) : Option (Option Policer) :=
  if depth = 0 then some none
  else if depth ≤ 63 ∧ 1 ≤ period ∧ period ≤ 4095 then some (some ⟨depth, period⟩)
  else none

/-- The class of an image (R5): above 3 is out of range, and so is any value but 0 on a DOWN entry. -/
def classOfByte (d : Direction) (b : Byte) : Option (Fin 4) :=
  if h : b.toNat < 4 then
    if d = .down ∧ b ≠ 0 then none else some ⟨b.toNat, h⟩
  else none

/-- The entry of a CHANNEL image, none when a field is out of range or not allowed for the direction (R5, R34). -/
def Entry.ofImage (image : List Byte) : Option Entry :=
  match image with
  | c1 :: c0 :: d :: sp :: cl :: lv :: ow :: dp :: p1 :: p0 :: sq :: ex :: ac :: _ =>
    match Direction.ofByte d, Otherwise.ofByte ow, Policer.ofImage dp.toNat (p1 ++ p0).toNat,
      flagOfByte sq, flagOfByte ex, flagOfByte ac with
    | some direction, some otherwise, some policer, some sequenceCheck, some expectsResponse, some autoClose =>
      match classOfByte direction cl with
      | some cls =>
        if 1 ≤ (c1 ++ c0).toNat ∧ (c1 ++ c0).toNat ≤ 1023 ∧ 1 ≤ sp.toNat ∧ sp.toNat < 64 ∧ lv.toNat < 8
            ∧ (direction = .up → expectsResponse = false ∧ autoClose = false) then
          some
            { channel := (c1 ++ c0).setWidth 10
              direction := direction
              spurs := sp.setWidth 6
              cls := cls
              live := lv.setWidth 3
              otherwise := otherwise
              policer := policer
              sequenceCheck := sequenceCheck
              expectsResponse := expectsResponse
              autoClose := autoClose }
        else none
      | none => none
    | _, _, _, _, _, _ => none
  | _ => none

/-- The CHANNEL image of an entry (R9, R34): an absent policer is given as depth 0 and period 0. -/
def Entry.image (e : Entry) : List Byte :=
  bytes16 (e.channel.setWidth 16)
    ++ [e.direction.byte, e.spurs.setWidth 8, byteOf e.cls.val, e.live.setWidth 8, e.otherwise.byte,
        byteOf (e.policer.elim 0 Policer.depth)]
    ++ bytes16 (BitVec.ofNat 16 (e.policer.elim 0 Policer.period))
    ++ [byteOfFlag e.sequenceCheck, byteOfFlag e.expectsResponse, byteOfFlag e.autoClose]

/-- The record of a PROFILE image for the profile p, none when out of range (R34, R119). -/
def ProfileRecord.ofImage (p : Profile) (image : List Byte) : Option ProfileRecord :=
  match image with
  | m :: t1 :: t0 :: g :: _ =>
    match Profile.ofCode g.toNat with
    | some target =>
      if m.toNat < 64
          ∧ (if p = .night then (t1 ++ t0).toNat = 0 ∧ target = .night else target.code < p.code) then
        some ⟨m.setWidth 6, (t1 ++ t0).toNat, target⟩
      else none
    | none => none
  | _ => none

/-- The PROFILE image of a record (R34). -/
def ProfileRecord.image (r : ProfileRecord) : List Byte :=
  [r.driveMask.setWidth 8] ++ bytes16 (BitVec.ofNat 16 r.timeout) ++ [byteOf r.target.code]

/-- A field that names one of n things or, as 0xFF, none (R34): save list, refusal mark, next, list head. -/
def absentOr (n : Nat) (b : Byte) : Option (Option (Fin n)) :=
  if b = 0xFF then some none
  else if h : b.toNat < n then some (some ⟨b.toNat, h⟩)
  else none

/-- The byte of such a field. -/
def byteOfAbsentOr {n : Nat} (x : Option (Fin n)) : Byte :=
  match x with
  | none => 0xFF
  | some k => byteOf k.val

/-- The record of a TRANSITION image, none when a field is outside its codes, or a save list is named where the
target is not NIGHT, or restore where the source is not NIGHT (R34, R121). -/
def TransitionRecord.ofImage (i : Fin 6) (image : List Byte) : Option TransitionRecord :=
  match image with
  | pm :: sv :: rs :: d1 :: d0 :: w1 :: w0 :: hp :: rm :: _ =>
    match flagOfByte pm, absentOr 4 sv, flagOfByte rs, flagOfByte hp, absentOr 4 rm with
    | some permitted, some saveList, some restore, some discard, some refusalMark =>
      if (w1 ++ w0).toNat ≤ 1023
          ∧ (saveList.isSome → transitionTarget i = .night)
          ∧ (restore = true → transitionSource i = .night) then
        some ⟨permitted, saveList, restore, (d1 ++ d0).toNat, (w1 ++ w0).toNat, discard, refusalMark⟩
      else none
    | _, _, _, _, _ => none
  | _ => none

/-- The TRANSITION image of a record (R34). -/
def TransitionRecord.image (r : TransitionRecord) : List Byte :=
  [byteOfFlag r.permitted, byteOfAbsentOr r.saveList, byteOfFlag r.restore]
    ++ bytes16 (BitVec.ofNat 16 r.drainLimit) ++ bytes16 (BitVec.ofNat 16 r.settleWait)
    ++ [byteOfFlag r.discard, byteOfAbsentOr r.refusalMark]

/-- The descriptor of a DESCRIPTOR image, none when out of range (R34, R144). -/
def Descriptor.ofImage (image : List Byte) : Option Descriptor :=
  match image with
  | f :: c :: x :: _ =>
    match absentOr 16 x with
    | some next =>
      if h : f.toNat < 128 then
        if 1 ≤ c.toNat ∧ c.toNat ≤ 128 then some ⟨⟨f.toNat, h⟩, c.toNat, next⟩ else none
      else none
    | none => none
  | _ => none

/-- The DESCRIPTOR image of a descriptor (R34). -/
def Descriptor.image (d : Descriptor) : List Byte :=
  [byteOf d.first.val, byteOf d.count, byteOfAbsentOr d.next]

/-- An optional field time of an image: present flag and value, 0 when absent (R34). -/
def imageOfTime (t : Option Time) : List Byte :=
  byteOfFlag t.isSome :: bytes40 (t.getD 0)

/-- The context image (R34), 29 bytes. -/
def Context.image (c : Context) : List Byte :=
  [byteOfFlag c.live, byteOfFlag c.lastSequence.isSome, c.lastSequence.getD 0, byteOf c.tokens]
    ++ bytes40 c.refillMark ++ bytes32 c.passed
    ++ bytes16 c.policed ++ bytes16 c.repeats ++ bytes16 c.gaps ++ bytes16 c.held ++ bytes16 c.refused
    ++ imageOfTime c.lastAdmitted

/-- The RETENTION image of a valid slot (R34, R147). -/
def Slot.image (x : Slot) : List Byte :=
  [byteOf x.index.val, byteOfFlag x.superseded] ++ x.context.image

end Sys2Proof.Machine
end

