-- ==== Sys2Proof/Machine/Frames.lean ====
section
/-! DEFINITION. The frame on a line: its bytes and check (R21, R22), the receivers (R23, R36), and what a completed
reception is (R24, R37). -/

namespace Sys2Proof.Machine

/-- One bit of the check: the register shifts left, and the polynomial x^16 + x^12 + x^5 + 1 is taken off when its
top bit leaves (R22). -/
def crcBit (r : BitVec 16) : BitVec 16 :=
  if r.msb then (r <<< 1) ^^^ 0x1021 else r <<< 1

/-- One byte taken into the check, most significant bit first (R22). -/
def crcByte (r : BitVec 16) (b : Byte) : BitVec 16 :=
  crcBit (crcBit (crcBit (crcBit (crcBit (crcBit (crcBit (crcBit (r ^^^ (b ++ (0 : Byte))))))))))

/-- The check of a run of bytes: the register starts at 0xFFFF (R22). -/
def crc (bytes : List Byte) : BitVec 16 := bytes.foldl crcByte 0xFFFF

/-- Byte 2 of the header: kind, more, echo and the channel's two high bits (R21). -/
def Frame.kindByte (f : Frame) : Byte :=
  f.kind.code ++ BitVec.ofBool f.more ++ BitVec.ofBool f.echo ++ f.channel.extractLsb' 8 2

/-- The six header bytes and the payload: what the check covers (R21, R22). -/
def Frame.body (f : Frame) : List Byte :=
  [f.destination, f.source, f.kindByte, f.channel.extractLsb' 0 8, f.sequence, byteOf f.payload.length]
    ++ f.payload

/-- The bytes between the delimiters (R21). -/
def Frame.bytes (f : Frame) : List Byte := f.body ++ bytes16 (crc f.body)

/-- The symbols a transmitter sends for a frame (R21). -/
def Frame.symbols (f : Frame) : List Symbol := .start :: f.bytes.map .data ++ [.stop]

/-- What a symbol makes of the reception in progress (R23). -/
inductive Reception where
  /-- no reception ends -/
  | going
  /-- a reception ends with an END error -/
  | broken
  /-- a reception is complete -/
  | complete (bytes : List Byte)
deriving DecidableEq, Repr

/-- A receiver takes one symbol (R23). An OWN receiver delivers nothing (R36). -/
def Receiver.take (r : Receiver) (x : Symbol) : Receiver × Reception :=
  match r, x with
  | .own, _ => (.own, .going)
  | .waiting, .start => (.collecting [], .going)
  | .waiting, _ => (.waiting, .going)
  | .collecting bytes, .data b =>
    if bytes.length < Config.receiverCapacity then (.collecting (bytes ++ [b]), .going)
    else (.waiting, .broken)
  | .collecting bytes, .stop => (.waiting, .complete bytes)
  | .collecting _, .malformed => (.waiting, .broken)
  | .collecting _, .idle => (.waiting, .broken)
  | .collecting _, .start => (.collecting [], .broken)

/-- What a completed reception is, by the checks of R24 and R37 after the first: the first that fails decides. -/
inductive Verdict where
  /-- the byte count is wrong -/
  | short
  /-- the check differs -/
  | check
  /-- a valid reception of an unknown kind -/
  | unknownKind
  /-- a valid frame -/
  | valid (f : Frame)
deriving DecidableEq, Repr

/-- The frame of six header bytes and a payload, none when the kind is unknown (R20, R21). -/
def frameOf (d s k c q : Byte) (payload : List Byte) : Option Frame :=
  match Kind.ofCode (k.extractLsb' 4 4) with
  | some kind =>
    some
      { destination := d
        source := s
        kind := kind
        more := k.getLsbD 3
        echo := k.getLsbD 2
        channel := k.extractLsb' 0 2 ++ c
        sequence := q
        payload := payload }
  | none => none

/-- The checks on the bytes of a completed reception (R24 orders 2 to 4, R37 orders 2 to 4). -/
def verdict (bytes : List Byte) : Verdict :=
  match bytes with
  | d :: s :: k :: c :: q :: l :: rest =>
    if l.toNat ≤ Config.payloadCapacity ∧ rest.length = l.toNat + 2 then
      if rest.drop l.toNat = bytes16 (crc (bytes.take (6 + l.toNat))) then
        match frameOf d s k c q (rest.take l.toNat) with
        | some f => .valid f
        | none => .unknownKind
      else .check
    else .short
  | _ => .short

end Sys2Proof.Machine
end

