-- ==== Sys2Proof/Machine/Ops.lean ====
section
/-! DEFINITION. The named operations the meanings share: counters, intervals, captures, the station address, the
profiles' records, contexts, queues, and the guard of a part held in reset. -/

namespace Sys2Proof.Machine

/-! ## Counters and intervals -/

/-- A saturating counter counts one (00_scope, Conventions). -/
def satInc (c : Count16) : Count16 := if c = 0xFFFF then c else c + 1

/-- A saturating counter counts k. -/
def satAdd (c : Count16) (k : Nat) : Count16 := BitVec.ofNat 16 (min (c.toNat + k) 65535)

/-- The field time passed since a start, modulo 2^40 (R159). -/
def elapsed (start now : Time) : Nat := (now - start).toNat

/-- Whether an interval has expired (R159). -/
def expired (start : Time) (length : Nat) (now : Time) : Bool := decide (length ≤ elapsed start now)

/-! ## The part as a whole -/

/-- A command of a part that is held in reset by RSTN acts on nothing (R193; log 2, 19). -/
def unlessHeld (f : State → State) (s : State) : State := if s.held then s else f s

/-- The effective station address (R29). -/
def station (s : State) : Byte :=
  if s.agent.overrideEnabled then s.agent.overrideAddress
  else 0xA0 + s.agent.straps.addr.setWidth 8

/-- The START profile (R117). -/
def startProfile (x : Straps) : Profile := if x.start then .dusk else .day

/-- A capture (R160). -/
def capture (cause : CaptureCause) (s : State) : State :=
  { s with clock := { s.clock with previous := s.clock.current, current := ⟨s.clock.now, cause⟩ } }

/-- All spurs in ascending order. -/
def allSpurs : List SpurId := [0, 1, 2, 3, 4, 5]

/-- Whether a spur is in a spur set. -/
def inSet (n : SpurId) (m : SpurSet) : Bool := m.getLsbD n.val

/-- The spurs of a set in ascending order. -/
def spursOf (m : SpurSet) : List SpurId := allSpurs.filter (fun n => inSet n m)

/-- The set of the spurs that satisfy a test. -/
def spurSetOf (p : SpurId → Bool) : SpurSet :=
  allSpurs.foldl (fun m n => if p n then m ||| ((1 : SpurSet) <<< n.val) else m) 0

/-- All positions of the Channel Table in ascending order. -/
def allPositions : List Position := List.finRange 128

/-! ## Profiles -/

/-- The Profile Table record of a profile (R118). -/
def profileRecord (p : Profile) (s : State) : ProfileRecord := s.profiles.records[p.index]

/-- The Transition Table record C→T (R120). -/
def transitionRecord (c t : Profile) (s : State) : TransitionRecord :=
  s.profiles.transitions[transitionIndex c t]

/-- The phase of the transition in flight (R133). -/
def phase (s : State) : Option Phase := s.profiles.transition.map Transition.phase

/-- Whether the Channel Table and the contexts are locked: a transition is in SAVE or RESTORE (R4, R8, R57). -/
def tableLocked (s : State) : Bool :=
  decide (phase s = some .save) || decide (phase s = some .restore)

/-- Whether an entry is live (R16): its live profiles include the admission profile. -/
def isLive (e : Entry) (s : State) : Bool := e.live.getLsbD s.profiles.admission.code

/-- Whether a spur is a closing spur of a transition in flight (R129, R134). -/
def isClosing (n : SpurId) (s : State) : Bool :=
  match s.profiles.transition with
  | some t => inSet n t.closing
  | none => false

/-! ## Contexts -/

/-- The policer depth of a position: 0 without a policer or without an entry (R39). -/
def depthOf (e : Option Entry) : Nat := (e.bind Entry.policer).elim 0 Policer.depth

/-- The FRESH context of a position (R39). -/
def freshContext (e : Option Entry) (now : Time) : Context :=
  { Context.blank with tokens := depthOf e, refillMark := now }

/-- A Context Store just powered up: every context FRESH (R39, R40). -/
def freshStore (s : State) : Vector Context 128 :=
  Vector.ofFn fun i => freshContext s.table[i] s.clock.now

/-- Where a context stands: in the Context Store or in a retention slot. -/
inductive ContextRef where
  | store (i : Position)
  | slot (k : Nat)
deriving DecidableEq, Repr

/-- The slot that names a position, superseded or not (R146). -/
def slotOf (i : Position) (s : State) : Option Nat :=
  s.retention.slots.findIdx? (fun x => decide (x.index = i))

/-- The slot that names a position and is not superseded. -/
def goodSlotOf (i : Position) (s : State) : Option Nat :=
  s.retention.slots.findIdx? (fun x => decide (x.index = i) && !x.superseded)

/-- The working context of a position (R41). -/
def workingContext (i : Position) (s : State) : Option ContextRef :=
  if s.profiles.applied = .night then (goodSlotOf i s).map .slot
  else if s.admission.store.isSome then some (.store i) else none

/-- The context a reference reaches. -/
def getContext (r : ContextRef) (s : State) : Option Context :=
  match r with
  | .store i => s.admission.store.map fun v => v[i]
  | .slot k => s.retention.slots[k]?.map Slot.context

/-- The Context Store with one context changed. -/
def modifyStore (i : Position) (f : Context → Context) (s : State) : State :=
  { s with
    admission := { s.admission with store := s.admission.store.map fun v => v.set i (f v[i]) } }

/-- The retention slots with one changed. -/
def modifySlot (k : Nat) (f : Slot → Slot) (s : State) : State :=
  { s with retention := { s.retention with slots := s.retention.slots.modify k f } }

/-- One context changed where it stands; with no working context nothing is recorded (R42). -/
def modifyContext (r : Option ContextRef) (f : Context → Context) (s : State) : State :=
  match r with
  | none => s
  | some (.store i) => modifyStore i f s
  | some (.slot k) => modifySlot k (fun x => { x with context := f x.context }) s

/-- refused+1 (R55); a context whose counter changes is LIVE (R39). -/
def countRefused (c : Context) : Context := { c with refused := satInc c.refused, live := true }

/-- held+1 (R55). -/
def countHeld (c : Context) : Context := { c with held := satInc c.held, live := true }

/-- A frame reaches forwarding: passed+1, wrapping, and last admitted becomes now (R49, R55). -/
def countPassed (now : Time) (c : Context) : Context :=
  { c with passed := c.passed + 1, lastAdmitted := some now, live := true }

/-- The position's context becomes FRESH while the store is powered (R7, R39). -/
def freshenContext (i : Position) (s : State) : State :=
  modifyStore i (fun _ => freshContext s.table[i] s.clock.now) s

/-- The position's valid slot becomes superseded (R153). -/
def supersede (i : Position) (s : State) : State :=
  { s with
    retention :=
      { s.retention with
        slots := s.retention.slots.map fun x => if x.index = i then { x with superseded := true } else x } }

/-! ## Queues -/

/-- A frame offered to a trunk class queue (R80): the state after, and whether it was appended. -/
def offerClass (q : Fin 4) (f : Frame) (s : State) : State × Bool :=
  if s.arbiter.classQueues[q].length < Config.classQueueCapacity then
    ({ s with
        arbiter :=
          { s.arbiter with classQueues := s.arbiter.classQueues.set q (s.arbiter.classQueues[q] ++ [f]) } },
      true)
  else (raise .queueDrop s, false)

/-- A copy offered to a spur queue (R76): the state after, and whether it was appended. -/
def offerCopy (n : SpurId) (c : Copy) (s : State) : State × Bool :=
  if s.spurs[n].queue.length < Config.spurQueueCapacity then
    (modifySpur n (fun sp => { sp with queue := sp.queue ++ [c] }) s, true)
  else (raise .queueDrop s, false)

/-- A spur queue is emptied, each copy counted in SPUR_LOST (R78). -/
def emptyQueue (n : SpurId) (s : State) : State :=
  modifySpur n (fun sp => { sp with lost := satAdd sp.lost sp.queue.length, queue := [] }) s

/-- The dormancy timer restarts (R132). -/
def restartDormancy (s : State) : State :=
  { s with profiles := { s.profiles with dormancy := some s.clock.now } }

/-- A response built and appended to the response queue (R31, R33, R81, R181). -/
def answer (rq : Request) (status : Status) (result : List Byte) (s : State) : State :=
  { s with
    arbiter :=
      { s.arbiter with
        responses :=
          s.arbiter.responses
            ++ [{ destination := rq.source
                  source := station s
                  payload := rq.operation :: rq.tag :: status.bytes ++ result }] } }

end Sys2Proof.Machine
end

