-- ==== Sys2Proof/Machine/Spurs.lean ====
section
/-! DEFINITION. Drive and presence of the spurs, the loss of engine presence, and the three commands that reach them
from the pins and the settle timer (R88 to R93, R107, R179). -/

namespace Sys2Proof.Machine

/-! ## Engine presence -/

/-- Whether a spur is engine-present (R93). -/
def enginePresent (presence : Presence) (earlyLeave : Bool) : Bool :=
  match presence with
  | .absent => false
  | .arriving => false
  | .present => true
  | .leaving => !earlyLeave

/-- Whether a Spur Port is engine-present as it stands (R93). -/
def Spur.enginePresent (sp : Spur) : Bool := Machine.enginePresent sp.presence sp.earlyLeave

/-- The states whose abandonment sets LOST (R107, R108). -/
def EngineState.active (e : EngineState) : Bool :=
  match e with
  | .sending => true
  | .awaitingResponse => true
  | .inBurst => true
  | .closing => true
  | .awaitingCloseAck => true
  | .off => false
  | .idle => false
  | .stalled => false
  | .checking => false

/-- A receiver whose engine stops transmitting, completed or cut off, enters WAITING (R36). -/
def Receiver.release (r : Receiver) : Receiver :=
  match r with
  | .own => .waiting
  | r => r

/-- A line check is aborted (R179); the claim goes with the engine's record. -/
def abortCheck (s : State) : State :=
  raise .checkError
    (raise .checkDone { s with check := { s.check with outcome := .aborted, expected := none } })

/-- The engine of a spur that stops being engine-present goes to OFF (R107). -/
def loseEngine (n : SpurId) (s : State) : State :=
  let engine := s.spurs[n].engine
  if engine.state = .off then s
  else
    let s := modifySpur n (fun sp => { sp with engine := Engine.blank, rx := sp.rx.release }) s
    let s := if engine.state.active then setSpurFlags n SpurFlag.lost.bit s else s
    if engine.state = .checking ∨ engine.claimWaiting = true then abortCheck s else s

/-- The engine of a spur that becomes engine-present goes from OFF to IDLE (R93, R95). -/
def gainEngine (n : SpurId) (s : State) : State :=
  modifySpur n (fun sp => { sp with engine := { sp.engine with state := .idle } }) s

/-- A change of a spur's presence or of EARLY_LEAVE, with what follows from a net change of its engine-presence: the
engine's loss or gain, the emptied queue, PRESENCE_CHANGE raised once (R93, R78). -/
def changePresence (n : SpurId) (f : Spur → Spur) (s : State) : State :=
  let before := s.spurs[n].enginePresent
  let s := modifySpur n f s
  match before, s.spurs[n].enginePresent with
  | true, false => raise .presenceChange (emptyQueue n (loseEngine n s))
  | false, true => raise .presenceChange (gainEngine n s)
  | _, _ => s

/-! ## Presence (R91) -/

/-- A spur takes a presence, its settle timer stopped or started; becoming ABSENT empties the queue. -/
def setPresence (n : SpurId) (presence : Presence) (timer : Option Time) (s : State) : State :=
  let s := changePresence n (fun sp => { sp with presence := presence, settleTimer := timer }) s
  if presence = .absent then emptyQueue n s else s

/-- A spur goes to ARRIVING with its timer started; with SETTLE 0 it passes on to PRESENT in the same event. -/
def startArriving (n : SpurId) (s : State) : State :=
  if s.spurs[n].settle = 0 then setPresence n .present none s
  else setPresence n .arriving (some s.clock.now) s

/-- A spur goes to LEAVING with its timer started; with SETTLE 0 it passes on to ABSENT in the same event. -/
def startLeaving (n : SpurId) (s : State) : State :=
  if s.spurs[n].settle = 0 then setPresence n .absent none s
  else setPresence n .leaving (some s.clock.now) s

/-- The line-sense of a driven spur goes to a level (R91). -/
def takeSense (n : SpurId) (level : Bool) (s : State) : State :=
  match s.spurs[n].presence, level with
  | .absent, true => startArriving n s
  | .arriving, false => setPresence n .absent none s
  | .present, false => startLeaving n s
  | .leaving, true => setPresence n .present none s
  | _, _ => s

/-- Whether a spur's settle timer has expired (R91, R92). -/
def settleDue (n : SpurId) (s : State) : Bool :=
  match s.spurs[n].settleTimer with
  | some start => expired start s.spurs[n].settle s.clock.now
  | none => false

/-- The settle timer expires (R91). -/
def takeSettle (n : SpurId) (s : State) : State :=
  match s.spurs[n].presence with
  | .arriving => setPresence n .present none s
  | .leaving => setPresence n .absent none s
  | _ => s

/-- The settle timer's expiry where it has expired. -/
def settleIfDue (n : SpurId) (s : State) : State := if settleDue n s then takeSettle n s else s

/-! ## Drive (R88, R89) -/

/-- Whether the gate is active. -/
def gateActive (s : State) : Bool := s.pins.gate != s.spurLines.gateInverted

/-- The effective drive of a spur as its inputs compute it. -/
def computedDrive (n : SpurId) (s : State) : Bool :=
  inSet n s.spurLines.driveMask && (s.spurs[n].force || (s.spurs[n].follow && gateActive s))

/-- A spur's drive goes on. -/
def driveOn (n : SpurId) (s : State) : State :=
  let s := modifySpur n (fun sp => { sp with drive := true, rx := .waiting }) s
  if inSet n s.pins.sense then startArriving n s else s

/-- A spur's drive goes off. -/
def driveOff (n : SpurId) (s : State) : State :=
  let s := modifySpur n (fun sp => { sp with drive := false, rx := .waiting }) s
  loseEngine n (setPresence n .absent none s)

/-- A spur's drive is computed anew. -/
def evaluateDrive (n : SpurId) (s : State) : State :=
  if computedDrive n s = s.spurs[n].drive then s
  else if computedDrive n s then driveOn n s
  else driveOff n s

/-- The drive of several spurs is computed anew. -/
def evaluateDrives (ns : List SpurId) (s : State) : State := ns.foldl (fun s n => evaluateDrive n s) s

/-! ## The pins' record -/

/-- A line-sense level recorded at its pin. -/
def recordSense (n : SpurId) (level : Bool) (s : State) : State :=
  { s with
    pins :=
      { s.pins with
        sense :=
          if level then s.pins.sense ||| ((1 : SpurSet) <<< n.val)
          else s.pins.sense &&& ~~~((1 : SpurSet) <<< n.val) } }

/-- The SPUR_GATE level recorded at its pin. -/
def recordGate (level : Bool) (s : State) : State := { s with pins := { s.pins with gate := level } }

/-! ## Commands -/

/-- LINE_SENSE_CHANGE (R91): a change of a line-sense level; while the drive is off the sense is recorded and
ignored. A level the pin already has is no change. -/
def execLineSenseChange (n : SpurId) (level : Bool) (s : State) : Result :=
  if inSet n s.pins.sense = level then .next s
  else
    .next (unlessHeld (fun s => if s.spurs[n].drive then takeSense n level s else s) (recordSense n level s))

/-- SETTLE_TIMER_EXPIRY (R91). -/
def execSettleTimerExpiry (n : SpurId) (s : State) : Result := .next (unlessHeld (settleIfDue n) s)

/-- SPUR_GATE_CHANGE (R89). -/
def execSpurGateChange (level : Bool) (s : State) : Result :=
  .next (unlessHeld (evaluateDrives allSpurs) (recordGate level s))

end Sys2Proof.Machine
end

