-- ==== Sys2Proof/Machine/Admission.lean ====
section
/-! DEFINITION. The admission sequence but for the profile request of a WAKE entry: save lists and locks, the Hold
Queue's append, the sequence check, the policer and forwarding (R43 to R51, R60 to R62, R142 to R145). -/

namespace Sys2Proof.Machine

/-! ## Save lists and locks -/

/-- The positions of a descriptor's range, ascending (R142, R145). -/
def Descriptor.range (d : Descriptor) : List Position := (allPositions.drop d.first.val).take d.count

/-- The walk order of the list that starts at a descriptor, none when it is malformed: an empty descriptor, a range
beyond 127, or more descriptors than the fuel (R127, R145). -/
def walkFrom (pool : Vector (Option Descriptor) 16) (fuel : Nat) (next : Option (Fin 16)) :
    Option (List Position) :=
  match fuel, next with
  | _, none => some []
  | 0, some _ => none
  | fuel + 1, some d =>
    match pool[d] with
    | none => none
    | some x =>
      if x.first.val + x.count - 1 ≤ 127 then
        match walkFrom pool fuel x.next with
        | some rest => some (x.range ++ rest)
        | none => none
      else none

/-- The walk order of a list head, none when the list is malformed: at most 16 descriptors (R127, R145). -/
def walkOrder (head : Fin 4) (s : State) : Option (List Position) :=
  walkFrom s.retention.descriptors 16 s.retention.heads[head]

/-- Whether a position is covered by the save list of the transition in flight (R44, R145). -/
def covered (i : Position) (s : State) : Bool :=
  match s.profiles.transition with
  | none => false
  | some t =>
    match (transitionRecord t.source t.target s).saveList with
    | none => false
    | some head => ((walkOrder head s).getD []).contains i

/-- The slot that the restore walk has still to copy for a position (R45). -/
def unrestoredSlot (i : Position) (s : State) : Option Nat :=
  match goodSlotOf i s with
  | some k => if s.retention.restoreNext ≤ k then some k else none
  | none => none

/-- The lock of an entry, as the context that counts its held frames: in SAVE the slot once the walk has copied the
position and the Context Store before (R44), in RESTORE the slot not yet copied (R45). -/
def lockOf (i : Position) (s : State) : Option ContextRef :=
  match phase s with
  | some .save =>
    if covered i s then
      match slotOf i s with
      | some k => some (.slot k)
      | none => some (.store i)
    else none
  | some .restore => (unrestoredSlot i s).map .slot
  | _ => none

/-! ## Holding a frame -/

/-- The append that raised the occupancy to k raises the event of every mark whose level is k (R62). -/
def crossMarks (k : Nat) (s : State) : State :=
  [(0 : Fin 4), 1, 2, 3].foldl (fun s m => if s.hold.marks[m] = k then raise (.holdMark m) s else s) s

/-- A record added at the Hold Queue's tail (R60). -/
def appendHeld (r : HeldFrame) (s : State) : State :=
  { s with hold := { s.hold with records := s.hold.records ++ [r] } }

/-- A frame is held, counted held in a context, or discarded on overflow, counted refused there (R60, R61). -/
def holdFrame (r : HeldFrame) (context : Option ContextRef) (s : State) : State :=
  if s.hold.records.length < Config.holdCapacity then
    modifyContext context countHeld (crossMarks (s.hold.records.length + 1) (appendHeld r s))
  else modifyContext context countRefused (raise .holdOverflow s)

/-! ## Sequence check and policer -/

/-- The sequence check of a frame against a context: the context after, and whether the frame is accepted (R46). -/
def checkSequence (q : Byte) (c : Context) : Context × Bool :=
  match c.lastSequence with
  | none => ({ c with lastSequence := some q, live := true }, true)
  | some l =>
    if q = l then ({ c with repeats := satInc c.repeats, live := true }, false)
    else if q = l + 1 then ({ c with lastSequence := some q, live := true }, true)
    else ({ c with lastSequence := some q, gaps := satInc c.gaps, live := true }, true)

/-- Refill credited up to now (R47). -/
def refill (p : Policer) (now : Time) (c : Context) : Context :=
  let n := elapsed c.refillMark now / p.period
  if n = 0 then c
  else if c.tokens + n ≤ p.depth then
    { c with tokens := c.tokens + n, refillMark := c.refillMark + BitVec.ofNat 40 (n * p.period) }
  else { c with tokens := p.depth, refillMark := now }

/-- The policer: refill, then a token or a discard (R47, R48). -/
def takeToken (p : Policer) (now : Time) (c : Context) : Context × Bool :=
  let c := refill p now c
  if c.tokens = 0 then ({ c with policed := satInc c.policed, live := true }, false)
  else ({ c with tokens := c.tokens - 1 }, true)

/-- The sequence check where the entry's is on. -/
def sequenceStep (e : Entry) (q : Byte) (c : Context) : Context × Bool :=
  if e.sequenceCheck then checkSequence q c else (c, true)

/-- The policer where the entry has one. -/
def policerStep (e : Entry) (now : Time) (c : Context) : Context × Bool :=
  match e.policer with
  | none => (c, true)
  | some p => takeToken p now c

/-- The working context after a frame's sequence check, policer and arrival at forwarding, and whether the frame
reaches forwarding (R46 to R49). -/
def judgeFrame (e : Entry) (q : Byte) (now : Time) (c : Context) : Context × Bool :=
  match sequenceStep e q c with
  | (c, false) => (c, false)
  | (c, true) =>
    match policerStep e now c with
    | (c, false) => (c, false)
    | (c, true) => (countPassed now c, true)

/-! ## Forwarding -/

/-- One copy offered to one spur of a DOWN entry: the state after, and whether a copy has been placed (R49). -/
def offerDown (copy : Copy) (context : Option ContextRef) (x : State × Bool) (n : SpurId) : State × Bool :=
  if x.1.spurs[n].presence = .absent ∨ isClosing n x.1 = true then (modifyContext context countRefused x.1, x.2)
  else
    match offerCopy n copy x.1 with
    | (s, true) => (s, true)
    | (s, false) => (modifyContext context countRefused s, x.2)

/-- A DOWN frame offered to each spur of its entry in ascending order (R49). -/
def forwardDown (e : Entry) (f : Frame) (context : Option ContextRef) (s : State) : State × Bool :=
  (spursOf e.spurs).foldl (offerDown ⟨f, e.expectsResponse, e.autoClose⟩ context) (s, false)

/-- An UP frame offered to the class queue of its entry (R50). -/
def forwardUp (e : Entry) (f : Frame) (context : Option ContextRef) (s : State) : State × Bool :=
  match offerClass e.cls f s with
  | (s, true) => (s, true)
  | (s, false) => (modifyContext context countRefused s, false)

/-- A frame placed at least once is a forwarded frame, which restarts the dormancy timer (R51, R132). -/
def reportForwarded (x : State × Bool) : State := if x.2 then restartDormancy x.1 else x.1

/-- Forwarding by direction (R49 to R51). -/
def forward (e : Entry) (d : Direction) (f : Frame) (context : Option ContextRef) (s : State) : State :=
  match d with
  | .down => reportForwarded (forwardDown e f context s)
  | .up => reportForwarded (forwardUp e f context s)

/-- The last three steps of admission, for a frame that passed the liveness and lock steps: against the working
context, or bare without one (R42, R46 to R51). -/
def admitPassing (i : Position) (e : Entry) (d : Direction) (f : Frame) (s : State) : State :=
  match workingContext i s with
  | none => forward e d f none s
  | some r =>
    match getContext r s with
    | none => forward e d f none s
    | some c =>
      match judgeFrame e f.sequence s.clock.now c with
      | (c, true) => forward e d f (some r) (modifyContext (some r) (fun _ => c) s)
      | (c, false) => modifyContext (some r) (fun _ => c) s

/-! ## Lookup -/

/-- Whether an entry serves a channel in a direction (R3, R11). -/
def Entry.serves (channel : Channel) (d : Direction) (e : Entry) : Bool :=
  decide (e.channel = channel) && decide (e.direction = d)

/-- The position that a channel and direction hit (R11). -/
def lookup (channel : Channel) (d : Direction) (s : State) : Option Position :=
  allPositions.find? fun i => s.table[i].any (Entry.serves channel d)

end Sys2Proof.Machine
end

