-- ==== Sys2Proof/Machine/LineCheck.lean ====
section
/-! DEFINITION. The Line Check Unit: patterns, giving a TEST frame, concluding it, finishing (R170 to R177), and the
grant of a claim. -/

namespace Sys2Proof.Machine

/-! ## Patterns (R172) -/

/-- One shift of the PSEUDO register: the output is bit 8, the feedback bit 8 exclusive-or bit 4. -/
def pseudoShift (r : BitVec 9) : BitVec 9 :=
  (r <<< 1) ||| (BitVec.ofBool (r.getLsbD 8 != r.getLsbD 4)).setWidth 9

/-- The next k outputs of the PSEUDO register, the first one highest, after the bits already taken. -/
def pseudoBits (k : Nat) (taken : Byte) (r : BitVec 9) : Byte × BitVec 9 :=
  match k with
  | 0 => (taken, r)
  | k + 1 => pseudoBits k ((taken <<< 1) ||| (BitVec.ofBool (r.getLsbD 8)).setWidth 8) (pseudoShift r)

/-- A payload of the next outputs of the PSEUDO register, 8 a byte, and the register after it. -/
def pseudoPayload (length : Nat) (r : BitVec 9) : List Byte × BitVec 9 :=
  match length with
  | 0 => ([], r)
  | length + 1 =>
    let (b, r) := pseudoBits 8 0 r
    let (rest, r) := pseudoPayload length r
    (b :: rest, r)

/-- Byte i of frame n for the patterns other than PSEUDO. -/
def patternByte (p : Pattern) (custom : Vector Byte 16) (n i : Nat) : Byte :=
  match p with
  | .zeros => 0x00
  | .ones => 0xFF
  | .alternate => if i % 2 = 0 then 0x55 else 0xAA
  | .count => byteOf (n + i)
  | .custom => custom[(Fin.ofNat 16 i)]
  | .pseudo => 0x00

/-- The payload of frame n under the settings, and the PSEUDO register after it. R172 gives the register's advance under
PSEUDO alone a meaning; that the other patterns leave it as it stands is the model's choice (log 34). -/
def checkPayload (c : LineCheck) : List Byte × BitVec 9 :=
  match c.pattern with
  | .pseudo => pseudoPayload c.length c.register
  | p => ((List.range c.length).map (patternByte p c.custom c.number), c.register)

/-! ## TEST frames -/

/-- The TEST frame of the next frame number (R109, R175). -/
def testFrame (s : State) : Frame where
  destination := s.check.station
  source := station s
  kind := .test
  more := false
  echo := true
  channel := 0
  sequence := byteOf s.check.number
  payload := (checkPayload s.check).1

/-- The echo expected of a TEST frame: destination and source exchanged (R175). -/
def Frame.exchanged (f : Frame) : Frame := { f with destination := f.source, source := f.destination }

/-- The unit gives the engine the next TEST frame, and the engine transmits it (R109, R175). -/
def giveTest (n : SpurId) (s : State) : State :=
  let f := testFrame s
  let c :=
    { s.check with
      sent := satInc s.check.sent
      number := s.check.number + 1
      register := (checkPayload s.check).2
      expected := some f.exchanged }
  modifySpur n
    (fun sp =>
      { sp with
        rx := .own
        engine :=
          { sp.engine with state := .checking, outstanding := some ⟨f, false, false⟩, timer := none } })
    { s with check := c }

/-- An engine goes to IDLE with no outstanding record and no timer. -/
def Engine.idled (e : Engine) : Engine := { e with state := .idle, outstanding := none, timer := none }

/-- The check finishes as DONE, and the engine leaves CHECKING for IDLE (R177). -/
def finishCheck (n : SpurId) (s : State) : State :=
  let s := raise .checkDone { s with check := { s.check with outcome := .done, expected := none } }
  let s := if 0 < s.check.mismatched.toNat + s.check.missing.toNat then raise .checkError s else s
  modifySpur n (fun sp => { sp with engine := sp.engine.idled }) s

/-- The next TEST frame is given, or the check finishes (R175, R177). -/
def nextTest (n : SpurId) (s : State) : State :=
  if s.check.number < s.check.count then giveTest n s else finishCheck n s

/-- What a report on a TEST frame counts as (R176). -/
inductive Report where
  | good
  | mismatched
  | missing
deriving DecidableEq, Repr

/-- A report counted (R176). -/
def countReport (r : Report) (c : LineCheck) : LineCheck :=
  match r with
  | .good => c
  | .mismatched => { c with mismatched := satInc c.mismatched }
  | .missing => { c with missing := satInc c.missing }

/-- A TEST frame is concluded by a report (R176). -/
def concludeTest (n : SpurId) (r : Report) (s : State) : State :=
  nextTest n { s with check := { countReport r s.check with expected := none } }

/-- The report on a valid frame from the echo station (R176). -/
def echoReport (f : Frame) (s : State) : Report :=
  if s.check.expected = some f then .good else .mismatched

/-! ## The claim (R174) -/

/-- Whether an engine is IDLE with a claim waiting (R95). -/
def claimDue (n : SpurId) (s : State) : Bool :=
  decide (s.spurs[n].engine.state = .idle) && s.spurs[n].engine.claimWaiting

/-- The claim is granted, and frame 0 is given (R95, R174, R175). -/
def grantClaim (n : SpurId) (s : State) : State :=
  let s :=
    modifySpur n (fun sp => { sp with engine := { sp.engine with claimWaiting := false, state := .checking } }) s
  nextTest n { s with check := { s.check with outcome := .running } }

/-- The grant of a claim that waits at an IDLE engine. Every event that brings an engine to IDLE, or a claim to an IDLE
engine, ends with it (R95, R106, R174). -/
def grantIfDue (n : SpurId) (s : State) : State := if claimDue n s then grantClaim n s else s

/-- CLAIM_GRANT (R174). The event that makes the grant possible takes it, so that a command after it finds none to take
(log 1). -/
def execClaimGrant (n : SpurId) (s : State) : Result := .next (unlessHeld (grantIfDue n) s)

end Sys2Proof.Machine
end

