-- ==== Sys2Proof/Machine/Profiles.lean ====
section
/-! DEFINITION. The Profile Controller: requests, refusals, the phases of a transition, the release at its END, and
the commands of its timers and walks (R66, R67, R123 to R141, R148 to R156). -/

namespace Sys2Proof.Machine

/-! ## The transition record -/

/-- The transition in flight changed. -/
def modifyTransition (f : Transition → Transition) (s : State) : State :=
  { s with profiles := { s.profiles with transition := s.profiles.transition.map f } }

/-- A phase entered, with its timer. -/
def enterPhase (p : Phase) (timer : Option Time) (s : State) : State :=
  modifyTransition (fun t => { t with phase := p, timer := timer }) s

/-- Every slot made not valid (R156). -/
def clearDirectory (s : State) : State := { s with retention := { s.retention with slots := [] } }

/-! ## END (R140, R66, R67) -/

/-- One record of the release walk, on a queue that holds the kept records so far: a frame of a live entry re-enters
admission, any other is kept, or discarded and counted under DISCARD (R67, R54). The frame goes by the direction its
record holds, and a position without an entry counts as not live (log 24, 25). -/
def releaseOne (discard : Bool) (s : State) (r : HeldFrame) : State :=
  match s.table[r.index] with
  | some e =>
    if isLive e s then admitPassing r.index e r.direction r.frame s
    else if discard then { s with hold := { s.hold with discards := satInc s.hold.discards } }
    else appendHeld r s
  | none =>
    if discard then { s with hold := { s.hold with discards := satInc s.hold.discards } }
    else appendHeld r s

/-- The release walk, from head to tail (R66 to R68). -/
def release (discard : Bool) (s : State) : State :=
  s.hold.records.foldl (releaseOne discard) { s with hold := { s.hold with records := [] } }

/-- END, steps 1 to 3: the transition leaves flight, TRANSITION_END and its capture, the release, the dormancy timer
(R140). Step 4 is `takePending`. -/
def endTransition (s : State) : State :=
  match s.profiles.transition with
  | none => s
  | some t =>
    let discard := (transitionRecord t.source t.target s).discard
    let s := { s with profiles := { s.profiles with transition := none } }
    restartDormancy (release discard (capture .transitionEnd (raise .transitionEnd s)))

/-! ## SETTLE, RESTORE, APPLY, SAVE, DRAIN: a phase is entered or skipped (R133) -/

/-- SETTLE where the settle wait is above 0, else END (R139). -/
def enterSettle (s : State) : State :=
  match s.profiles.transition with
  | none => s
  | some t =>
    if (transitionRecord t.source t.target s).settleWait = 0 then endTransition s
    else enterPhase .settle (some s.clock.now) s

/-- The end of the restore walk (R155). -/
def endRestore (s : State) : State :=
  let skipped := s.retention.restoreSkipped
  let s := { s with retention := { s.retention with skipCount := skipped } }
  let s := if 0 < skipped then raise .restoreSkipped s else s
  enterSettle (clearDirectory s)

/-- RESTORE where the source is NIGHT and the record says restore; an empty directory ends it at once (R138, R154). -/
def enterRestore (s : State) : State :=
  match s.profiles.transition with
  | none => s
  | some t =>
    if t.source = .night ∧ (transitionRecord t.source t.target s).restore = true then
      let s := { s with retention := { s.retention with restoreNext := 0, restoreSkipped := 0 } }
      if s.retention.slots.isEmpty then endRestore s else enterPhase .restore none s
    else enterSettle s

/-- APPLY: profiles, drive mask and drives, Context Store power, directory (R137). -/
def enterApply (s : State) : State :=
  match s.profiles.transition with
  | none => s
  | some t =>
    let s := { s with profiles := { s.profiles with applied := t.target, admission := t.target } }
    let s := { s with spurLines := { s.spurLines with driveMask := (profileRecord t.target s).driveMask } }
    let s := evaluateDrives allSpurs s
    let s := if t.target = .night then { s with admission := { s.admission with store := none } } else s
    let s :=
      if t.source = .night then
        let s := { s with admission := { s.admission with store := some (freshStore s) } }
        if (transitionRecord t.source t.target s).restore then s else clearDirectory s
      else s
    enterRestore s

/-- SAVE where the target is NIGHT and the record names a save list; an empty list ends it at once (R136, R148). -/
def enterSave (s : State) : State :=
  match s.profiles.transition with
  | none => s
  | some t =>
    match t.target, (transitionRecord t.source t.target s).saveList with
    | .night, some head =>
      let walk := (walkOrder head s).getD []
      let s := { s with profiles := { s.profiles with admission := .night } }
      let s := { s with retention := { s.retention with slots := [], saveLost := 0, saveRest := walk } }
      if walk.isEmpty then enterApply s else enterPhase .save none s
    | _, _ => enterApply s

/-- Whether a closing spur is drained (R134). -/
def Spur.drained (sp : Spur) : Bool :=
  sp.queue.isEmpty
    && (decide (sp.engine.state = .idle) || decide (sp.engine.state = .stalled)
        || decide (sp.engine.state = .off))

/-- Whether every closing spur of the transition in flight is drained (R134). -/
def allDrained (s : State) : Bool := allSpurs.all fun n => !isClosing n s || s.spurs[n].drained

/-- The drain expiry stops an active engine with LOST set; it goes to IDLE, where a waiting claim is granted (R95,
R108). -/
def stopEngine (n : SpurId) (s : State) : State :=
  if s.spurs[n].engine.state.active then
    grantIfDue n
      (setSpurFlags n SpurFlag.lost.bit
        (modifySpur n
          (fun sp =>
            { sp with
              rx := sp.rx.release
              engine :=
                { sp.engine with state := .idle, outstanding := none, burst := none, timer := none } })
          s))
  else s

/-- The drain limit's effects on one spur (R135). -/
def stopClosing (s : State) (n : SpurId) : State :=
  if isClosing n s then stopEngine n (emptyQueue n s) else s

/-- The drain limit expires: DRAIN_EXPIRED, closing queues emptied, active engines stopped, DRAIN ends (R135). -/
def expireDrain (s : State) : State := enterSave (allSpurs.foldl stopClosing (raise .drainExpired s))

/-- DRAIN where there is a closing spur; it ends at once when all are drained or the drain limit is 0 (R134, R135). -/
def enterDrain (s : State) : State :=
  match s.profiles.transition with
  | none => s
  | some t =>
    if t.closing = 0 then enterSave s
    else if allDrained s then enterSave s
    else if (transitionRecord t.source t.target s).drainLimit = 0 then
      expireDrain (enterPhase .drain (some s.clock.now) s)
    else enterPhase .drain (some s.clock.now) s

/-! ## Requests (R125 to R130) -/

/-- The closing spurs of a transition to a profile (R129). -/
def closingSpurs (target : Profile) (s : State) : SpurSet :=
  spurSetOf fun n => s.spurs[n].drive && !inSet n (profileRecord target s).driveMask

/-- A transition starts (R129). The phase written here stands until the first phase is entered, in this event. -/
def startTransition (source target : Profile) (s : State) : State :=
  let t : Transition := ⟨source, target, .drain, closingSpurs target s, none⟩
  let s := { s with profiles := { s.profiles with transition := some t } }
  enterDrain (capture .transitionStart (raise .transitionStart s))

/-- A request is refused (R128). -/
def refuseRequest (q : ProfileRequest) (cause : Cause) (s : State) : State :=
  raise .transitionRefused
    { s with
      profiles := { s.profiles with lastRefusal := some ⟨q.source, q.target, cause, s.clock.now⟩ } }

/-- HOLD_HIGH (R126). -/
def holdHigh (r : TransitionRecord) (s : State) : Bool :=
  match r.refusalMark with
  | none => false
  | some m => decide (s.hold.marks[m] ≤ s.hold.records.length)

/-- Whether the line check is WAITING or RUNNING. -/
def checkBusy (s : State) : Bool :=
  decide (s.check.outcome = .waiting) || decide (s.check.outcome = .running)

/-- CHECK_RUNNING (R126). -/
def checkRunning (target : Profile) (s : State) : Bool :=
  checkBusy s && s.spurs[s.check.target].drive && !inSet s.check.target (profileRecord target s).driveMask

/-- MALFORMED_LIST (R127). -/
def malformedList (target : Profile) (r : TransitionRecord) (s : State) : Bool :=
  match target, r.saveList with
  | .night, some head => (walkOrder head s).isNone
  | _, _ => false

/-- The cause that refuses a request of the profile C with no transition in flight, if any (R125, items 2 and 3). -/
def refusal (source target : Profile) (s : State) : Option Cause :=
  let r := transitionRecord source target s
  if r.permitted = false then some .notPermitted
  else if target.code < source.code then
    if holdHigh r s then some .holdHigh
    else if checkRunning target s then some .checkRunning
    else if malformedList target r s then some .malformedList
    else none
  else none

/-- A request taken with no transition in flight, with the status that answers it (R124, R125). -/
def requestAtRest (q : ProfileRequest) (s : State) : State × Status :=
  if q.target = s.profiles.applied then (s, .ok)
  else
    match refusal s.profiles.applied q.target s with
    | some cause => (refuseRequest q cause s, .refused cause)
    | none => (startTransition s.profiles.applied q.target s, .ok)

/-- A request taken with a transition in flight, with the status that answers it (R124, R130). -/
def requestInFlight (q : ProfileRequest) (t : Transition) (s : State) : State × Status :=
  let kept := { s with profiles := { s.profiles with request := some q } }
  if t.target.code < q.target.code then
    match s.profiles.request with
    | none => (kept, .pending)
    | some p => if p.target.code < q.target.code then (kept, .pending) else (s, .busy)
  else (s, .busy)

/-- A profile request is taken in the event that makes it (R123). -/
def takeRequest (q : ProfileRequest) (s : State) : State × Status :=
  match s.profiles.transition with
  | none => requestAtRest q s
  | some t => requestInFlight q t s

/-- A request whose source is answered by nobody. -/
def makeRequest (source : Source) (target : Profile) (s : State) : State := (takeRequest ⟨source, target⟩ s).1

/-- A request to WAKE_TARGET, read when it is made (R123). -/
def requestWake (source : Source) (s : State) : State := makeRequest source s.profiles.wakeTarget s

/-- END, step 4: with no transition in flight the pending request is cleared and taken (R140; log 26). -/
def takePending (s : State) : State :=
  match s.profiles.transition, s.profiles.request with
  | none, some q => (takeRequest q { s with profiles := { s.profiles with request := none } }).1
  | _, _ => s

/-! ## Dormancy (R132) -/

/-- Whether the dormancy timer has expired. -/
def dormancyDue (s : State) : Bool :=
  match s.profiles.transition, s.profiles.dormancy with
  | none, some start =>
    decide (0 < (profileRecord s.profiles.applied s).timeout)
      && expired start (profileRecord s.profiles.applied s).timeout s.clock.now
  | _, _ => false

/-- The dormancy timer stops and makes its request. -/
def takeDormancy (s : State) : State :=
  makeRequest .dormancy (profileRecord s.profiles.applied s).target
    { s with profiles := { s.profiles with dormancy := none } }

/-- The dormancy timer's expiry where it has expired. -/
def dormancyIfDue (s : State) : State := if dormancyDue s then takeDormancy s else s

/-! ## The timers and walks of a transition -/

/-- Whether DRAIN is running and every closing spur is drained. -/
def drainCompleteDue (s : State) : Bool := decide (phase s = some .drain) && allDrained s

/-- Whether the transition is in a phase whose timer has run for a length that the transition's record gives. -/
def phaseTimerDue (p : Phase) (length : TransitionRecord → Nat) (s : State) : Bool :=
  match s.profiles.transition with
  | none => false
  | some t =>
    match t.timer with
    | none => false
    | some start =>
      decide (t.phase = p) && expired start (length (transitionRecord t.source t.target s)) s.clock.now

/-- Whether the drain limit has expired in DRAIN (R135). -/
def drainLimitDue (s : State) : Bool := phaseTimerDue .drain TransitionRecord.drainLimit s

/-- Whether the settle wait has elapsed in SETTLE (R139). -/
def settleWaitDue (s : State) : Bool := phaseTimerDue .settle TransitionRecord.settleWait s

/-- Whether the save walk copies a position when it examines it (R149). -/
def copyable (i : Position) (s : State) : Bool :=
  s.table[i].isSome
    && ((getContext (.store i) s).map Context.live).getD false
    && (slotOf i s).isNone

/-- A position copied into the lowest slot that is not valid (R149). -/
def copyToSlot (i : Position) (s : State) : State :=
  match getContext (.store i) s with
  | none => s
  | some c => { s with retention := { s.retention with slots := s.retention.slots ++ [⟨i, c, false⟩] } }

/-- The save walk moves on; after the last position of the walk order SAVE ends (R151). -/
def advanceSave (rest : List Position) (s : State) : State :=
  let s := { s with retention := { s.retention with saveRest := rest } }
  if rest.isEmpty then enterApply s else s

/-- The save walk is exhausted: SAVE_OVERFLOW, the copyable positions left are counted, and SAVE ends (R150). -/
def exhaustSave (left : List Position) (s : State) : State :=
  let lost := (left.filter fun i => copyable i s).eraseDups.length
  let s := { s with retention := { s.retention with saveLost := satAdd s.retention.saveLost lost } }
  advanceSave [] (raise .saveOverflow s)

/-- One step of the save walk (R149, R150). -/
def saveStep (s : State) : State :=
  match s.retention.saveRest with
  | [] => enterApply s
  | i :: rest =>
    if copyable i s then
      if s.retention.slots.length < Config.slotCapacity then advanceSave rest (copyToSlot i s)
      else exhaustSave (i :: rest) s
    else advanceSave rest s

/-- One slot restored into the Context Store, or skipped and counted (R154). The copy overwrites the whole store
context, a count that a frame not live placed there since APPLY included (log 37). -/
def restoreSlot (x : Slot) (s : State) : State :=
  if x.superseded then
    { s with retention := { s.retention with restoreSkipped := s.retention.restoreSkipped + 1 } }
  else modifyStore x.index (fun _ => { x.context with live := true }) s

/-- One step of the restore walk; after the last valid slot the walk completes (R154, R155). -/
def restoreStep (s : State) : State :=
  match s.retention.slots[s.retention.restoreNext]? with
  | none => endRestore s
  | some x =>
    let s := restoreSlot x s
    let s := { s with retention := { s.retention with restoreNext := s.retention.restoreNext + 1 } }
    if s.retention.restoreNext < s.retention.slots.length then s else endRestore s

/-! ## Hold expiry (R64) -/

/-- Whether a held frame's age has reached the maximum age. -/
def aged (s : State) (r : HeldFrame) : Bool :=
  decide (0 < s.hold.maxAge) && expired r.arrival s.hold.maxAge s.clock.now

/-- Whether the head record has expired. -/
def holdDue (s : State) : Bool :=
  match s.hold.records with
  | [] => false
  | r :: _ => aged s r

/-- The head record removed, counted and reported. -/
def dropExpired (s : State) : State :=
  raise .holdExpired
    { s with
      hold := { s.hold with records := s.hold.records.tail, discards := satInc s.hold.discards } }

/-- The head records that have expired are removed one after the other, at most as many as the fuel. -/
def expireHeld (fuel : Nat) (s : State) : State :=
  match fuel with
  | 0 => s
  | fuel + 1 => if holdDue s then expireHeld fuel (dropExpired s) else s

/-- Every expired record removed from the head (R64). -/
def expireAllHeld (s : State) : State := expireHeld s.hold.records.length s

/-! ## Commands -/

/-- DORMANCY_EXPIRY (R132). -/
def execDormancyExpiry (s : State) : Result := .next (unlessHeld dormancyIfDue s)

/-- DRAIN_COMPLETE (R134). -/
def execDrainComplete (s : State) : Result :=
  .next (unlessHeld (fun s => if drainCompleteDue s then takePending (enterSave s) else s) s)

/-- DRAIN_LIMIT_EXPIRY (R135). -/
def execDrainLimitExpiry (s : State) : Result :=
  .next (unlessHeld (fun s => if drainLimitDue s then takePending (expireDrain s) else s) s)

/-- SAVE_WALK_STEP (R149). -/
def execSaveWalkStep (s : State) : Result :=
  .next (unlessHeld (fun s => if phase s = some .save then takePending (saveStep s) else s) s)

/-- RESTORE_WALK_STEP (R154). -/
def execRestoreWalkStep (s : State) : Result :=
  .next (unlessHeld (fun s => if phase s = some .restore then takePending (restoreStep s) else s) s)

/-- SETTLE_WAIT_EXPIRY (R139, R140). -/
def execSettleWaitExpiry (s : State) : Result :=
  .next (unlessHeld (fun s => if settleWaitDue s then takePending (endTransition s) else s) s)

/-- HOLD_EXPIRY (R64). -/
def execHoldExpiry (s : State) : Result := .next (unlessHeld expireAllHeld s)

end Sys2Proof.Machine
end

