-- ==== Sys2Proof/Machine/Arrivals.lean ====
section
/-! DEFINITION. A frame that reaches admission from a line: lookup, wrong-spur check, miss policies, liveness and the
otherwise-actions, lock (R11 to R17, R42 to R45). -/

namespace Sys2Proof.Machine

/-- A frame whose entry is not live meets the otherwise-action, counted in the working context (R17, R43). During
RESTORE that is the Context Store's also for an entry whose slot is good and not yet restored: R41 and R43 count it
there, R138 and R154 have the store context FRESH until its step, which then overwrites the count. The manual leaves
open what becomes of such a frame: the model's choice (log 37). -/
def applyOtherwise (i : Position) (e : Entry) (r : HeldFrame) (s : State) : State :=
  let context := workingContext i s
  match e.otherwise with
  | .drop => modifyContext context countRefused s
  | .hold => holdFrame r context s
  | .wake => requestWake .wakeFrame (raise .wakeFrame (holdFrame r context s))

/-- Admission of a frame that hit an entry: liveness, lock, then the last three steps (R43 to R51). -/
def admitArrival (i : Position) (e : Entry) (port : Port) (f : Frame) (s : State) : State :=
  let r : HeldFrame := ⟨i, e.direction, port, s.clock.now, f⟩
  if isLive e s then
    match lockOf i s with
    | some context => holdFrame r (some context) s
    | none => admitPassing i e e.direction f s
  else applyOtherwise i e r s

/-- A copy offered under FLOOD to a spur that qualifies: PRESENT and not closing (R14). -/
def offerFlood (f : Frame) (x : State × Bool) (n : SpurId) : State × Bool :=
  if x.1.spurs[n].presence = .present ∧ isClosing n x.1 = false then
    match offerCopy n ⟨f, false, false⟩ x.1 with
    | (s, placed) => (s, placed || x.2)
  else x

/-- A DOWN lookup that misses (R14). -/
def missDown (f : Frame) (s : State) : State :=
  let s := { s with admission := { s.admission with missDown := satInc s.admission.missDown } }
  if s.admission.floodDown then reportForwarded (allSpurs.foldl (offerFlood f) (s, false)) else s

/-- An UP lookup that misses (R13). -/
def missUp (f : Frame) (s : State) : State :=
  let s := { s with admission := { s.admission with missUp := satInc s.admission.missUp } }
  if s.admission.forwardUp then reportForwarded (offerClass 0 f s) else s

/-- A frame that arrived on a spur outside its entry's set is refused, and counted where there is a working context
and no lock (R12). -/
def refuseWrongSpur (i : Position) (s : State) : State :=
  match lockOf i s with
  | some _ => s
  | none => modifyContext (workingContext i s) countRefused s

/-- A COMMAND handed over by the Trunk Port (R11, R14). -/
def arriveDown (f : Frame) (s : State) : State :=
  match lookup f.channel .down s with
  | none => missDown f s
  | some i =>
    match s.table[i] with
    | none => missDown f s
    | some e => admitArrival i e .trunk f s

/-- A RESPONSE handed over by the Spur Engine of a spur (R11 to R13). -/
def arriveUp (n : SpurId) (f : Frame) (s : State) : State :=
  match lookup f.channel .up s with
  | none => missUp f s
  | some i =>
    match s.table[i] with
    | none => missUp f s
    | some e => if inSet n e.spurs then admitArrival i e (.spur n) f s else refuseWrongSpur i s

end Sys2Proof.Machine
end

