-- ==== Sys2Proof/Machine/Resets.lean ====
section
/-! DEFINITION. Power-on, warm reset and the RSTN pin: what each block's working state becomes (R18, R29, R40, R74,
R79, R87, R116, R117, R141, R157, R169, R170, R192 to R194). -/

namespace Sys2Proof.Machine

/-! ## The blocks after a reset -/

/-- A Spur Port at a reset: its settings stay; it is undriven, ABSENT and OFF, its queue, counter and error status
empty (R79, R116). -/
def Spur.restarted (sp : Spur) : Spur :=
  { sp with
    drive := false
    presence := .absent
    settleTimer := none
    rx := .waiting
    queue := []
    lost := 0
    errors := 0
    engine := Engine.blank }

/-- Every Spur Port at a reset. -/
def restartSpurs (s : State) : State := allSpurs.foldl (fun s n => modifySpur n Spur.restarted s) s

/-- The Trunk Port at a reset (R23, R25, R30, R31). -/
def TrunkPort.fresh : TrunkPort := ⟨.waiting, none, 0, ⟨0, 0, 0, 0, 0⟩⟩

/-- The Trunk Arbiter at a reset (R87). -/
def Arbiter.fresh : Arbiter := ⟨Vector.replicate 4 [], [], false⟩

/-- The Hold Queue at a reset: its settings stay (R74). -/
def HoldQueue.restarted (h : HoldQueue) : HoldQueue := { h with records := [], discards := 0 }

/-- The Profile Controller at a reset: its tables, WAKE_TARGET and the last refusal stay (R117, R141). -/
def ProfileController.restarted (start : Profile) (now : Time) (p : ProfileController) : ProfileController :=
  { p with
    applied := start
    admission := start
    transition := none
    request := none
    dormancy := some now }

/-- The Retention Engine at a reset: its descriptors and heads stay (R156, R157). -/
def Retention.restarted (r : Retention) : Retention :=
  { r with slots := [], saveRest := [], restoreNext := 0, restoreSkipped := 0, saveLost := 0, skipCount := 0 }

/-- The silence watch at a reset: its settings stay, and an enabled watch starts an episode (R166, R169). -/
def Watch.restarted (now : Time) (w : Watch) : Watch :=
  { w with stage := if w.enabled then .counting else .off, episodeStart := now, quietTime := 0 }

/-- The Line Check Unit at a reset: its settings and the custom pattern stay (R170, R171, R179). -/
def LineCheck.restarted (c : LineCheck) : LineCheck :=
  { c with
    sent := 0
    mismatched := 0
    missing := 0
    outcome := .none
    number := 0
    register := 0
    expected := none }

/-- The Management Agent at a reset: the override and the masks stay (R29, R186, R192, R194). -/
def Agent.restarted (straps : Straps) (a : Agent) : Agent :=
  { a with requests := [], restartDue := false, spurSelect := 1, status := 0, straps := straps }

/-- Every block takes its reset values, the drive mask of the START profile's record is latched, the Context Store is
powered FRESH, and the spurs are evaluated afresh (R116, R141, R194). -/
def restartBlocks (s : State) : State :=
  let start := startProfile s.pins.strapPins
  let s :=
    { s with
      held := false
      trunk := TrunkPort.fresh
      admission := { s.admission with store := some (freshStore s), missUp := 0, missDown := 0 }
      hold := s.hold.restarted
      arbiter := Arbiter.fresh
      spurLines := { s.spurLines with driveMask := (profileRecord start s).driveMask }
      profiles := s.profiles.restarted start s.clock.now
      retention := s.retention.restarted
      clock := { s.clock with compareArmed := false }
      watch := s.watch.restarted s.clock.now
      check := s.check.restarted
      agent := s.agent.restarted s.pins.strapPins }
  evaluateDrives allSpurs (restartSpurs s)

/-- The part starts again with its warm-reset values: the WARM_RESET capture is made once the reset has taken effect,
and RESTARTED is raised last (R160, R194). A spur that SETTLE 0 brings to PRESENT in this event raises PRESENCE_CHANGE
before it, once the status is clear: the model's choice (log 35). -/
def warmReset (s : State) : State := raise .restarted (capture .warmReset (restartBlocks s))

/-- The strap pins as the part meets them at a warm reset of its own: at the next of the levels to come, or where they
stood (R29; log 8). -/
def moveStraps (s : State) : State :=
  { s with
    pins :=
      { s.pins with
        strapPins := s.pins.laterStraps.headD s.pins.strapPins
        laterStraps := s.pins.laterStraps.tail } }

/-- A warm reset of the part's own, by RESTART or the RESET action: the straps are sampled at their levels then (R29,
R193, R194). -/
def ownReset (s : State) : State := warmReset (moveStraps s)

/-! ## RSTN -/

/-- A Spur Port held in reset: undriven, ABSENT, OFF, its queue empty (R193, R116). -/
def Spur.cutOff (sp : Spur) : Spur :=
  { sp with
    drive := false
    presence := .absent
    settleTimer := none
    rx := .waiting
    queue := []
    engine := Engine.blank }

/-- The work is cut off as RSTN goes low; the counters, the event status and the START profile come when the part
starts again, and until then the profiles stand at the applied one (R117, R193; log 12). -/
def cutOff (s : State) : State :=
  let s :=
    { s with
      held := true
      trunk := { s.trunk with rx := .waiting, tx := none }
      hold := { s.hold with records := [] }
      arbiter := Arbiter.fresh
      profiles :=
        { s.profiles with admission := s.profiles.applied, transition := none, request := none }
      retention := { s.retention with slots := [], saveRest := [] }
      check := s.check.restarted
      agent := { s.agent with requests := [], restartDue := false } }
  allSpurs.foldl (fun s n => modifySpur n Spur.cutOff s) s

/-- The straps stand at levels when RSTN returns high (log 8). -/
def recordStraps (straps : Straps) (s : State) : State := { s with pins := { s.pins with strapPins := straps } }

/-! ## Power-on -/

/-- Every table and attribute at its default and field time 0, with the levels at the pins; the queue of commands and
the count of free values are the model's own and stay (R194; log 8). -/
def defaults (pins : Pins) (s : State) : State :=
  { State.reset with pins := pins, freeCount := s.freeCount, pending := s.pending }

/-! ## Commands -/

/-- POWER_ON (R194). -/
def execPowerOn (pins : Pins) (s : State) : Result := .next (raise .restarted (restartBlocks (defaults pins s)))

/-- RSTN_LOW (R193); a part already held stays as it is. R193 makes one reset of causes taken at one moment and does not
say how close they must be: the model takes no two commands at one moment, so that RSTN going low after a reset of
another cause, at the same field time too, brings a reset of its own (log 36). -/
def execRstnLow (s : State) : Result := .next (unlessHeld cutOff s)

/-- RSTN_HIGH (R193); a part that is not held stays as it is. -/
def execRstnHigh (straps : Straps) (s : State) : Result :=
  .next (if s.held then warmReset (recordStraps straps s) else s)

end Sys2Proof.Machine
end

