-- ==== Sys2Proof/Machine/Clock.lean ====
section
/-! DEFINITION. The Field Time Unit: the count, the wake compare, the WAKE pin and the trunk silence watch (R158 to
R169). -/

namespace Sys2Proof.Machine

/-! ## Field time (R158) -/

/-- The last value of the count. -/
def lastTime : Time := 0xFFFFFFFFFF

/-- Field time advances by one millisecond. -/
def advanceTime (s : State) : State := { s with clock := { s.clock with now := s.clock.now + 1 } }

/-- One millisecond passes, with TIME_WRAP where the count passes 2^40 - 1 to 0. Field time runs while the part is held
(R193), whose event status then stays clear. -/
def passMillisecond (s : State) : State :=
  if s.clock.now = lastTime then unlessHeld (raise .timeWrap) (advanceTime s) else advanceTime s

/-! ## The wake compare (R163) -/

/-- Whether the compare is armed with its target reached. -/
def compareDue (s : State) : Bool :=
  s.clock.compareArmed && decide (s.clock.compareTarget.toNat ≤ s.clock.now.toNat)

/-- The compare fires: disarmed, WAKE_TIME, the request. -/
def fireCompare (s : State) : State :=
  requestWake .wakeTime (raise .wakeTime { s with clock := { s.clock with compareArmed := false } })

/-- The compare's firing where it is due. -/
def fireIfDue (s : State) : State := if compareDue s then fireCompare s else s

/-! ## The WAKE pin (R164) -/

/-- Whether a level of the WAKE pin is the active one. -/
def wakeActive (level : Bool) (s : State) : Bool := level != s.clock.wakeActiveLow

/-- The WAKE level recorded at its pin. -/
def recordWake (level : Bool) (s : State) : State := { s with pins := { s.pins with wake := level } }

/-- An edge of the WAKE pin: the capture, WAKE_PIN, the request. -/
def takeWakeEdge (s : State) : State := requestWake .wakePin (raise .wakePin (capture .wakePin s))

/-! ## The silence watch (R165 to R168) -/

/-- An episode starts now. -/
def startEpisode (s : State) : State :=
  { s with watch := { s.watch with stage := .counting, episodeStart := s.clock.now } }

/-- A valid trunk frame restarts an enabled watch (R26, R166). -/
def restartWatch (s : State) : State := if s.watch.enabled then startEpisode s else s

/-- A stage of the watch. -/
def setStage (stage : WatchStage) (s : State) : State := { s with watch := { s.watch with stage := stage } }

/-- The action of the watch is taken (R168). -/
def watchAct (s : State) : State :=
  match s.watch.action with
  | .none => s
  | .fallback => makeRequest .trunkWatch s.watch.fallback s
  | .reset => ownReset s

/-- TRUNK_ACTION raised, the stage DONE, the action taken (R167; log 14). -/
def takeAction (s : State) : State := watchAct (setStage .done (raise .trunkAction s))

/-- Whether the quiet threshold has expired in COUNTING. -/
def quietDue (s : State) : Bool :=
  decide (s.watch.stage = .counting) && expired s.watch.episodeStart s.watch.quietThreshold s.clock.now

/-- The quiet step: TRUNK_QUIET with its capture, then QUIET in STAGED, the action in DIRECT. -/
def takeQuiet (s : State) : State :=
  let s := raise .trunkQuiet (capture .trunkQuiet s)
  if s.watch.direct then takeAction s
  else setStage .quiet { s with watch := { s.watch with quietTime := s.clock.now } }

/-- The quiet step where it is due. -/
def quietIfDue (s : State) : State := if quietDue s then takeQuiet s else s

/-- Whether the action threshold has expired in QUIET, in STAGED mode. -/
def actionDue (s : State) : Bool :=
  !s.watch.direct && decide (s.watch.stage = .quiet)
    && expired s.watch.quietTime s.watch.actionThreshold s.clock.now

/-- The action step where it is due. -/
def actionIfDue (s : State) : State := if actionDue s then takeAction s else s

/-! ## Commands -/

/-- WAKE_PIN_EDGE (R164): the pin goes to a level; the change is an edge when it goes from the inactive level to the
active one. -/
def execWakePinEdge (level : Bool) (s : State) : Result :=
  if wakeActive level s && !wakeActive s.pins.wake s then
    .next (unlessHeld takeWakeEdge (recordWake level s))
  else .next (recordWake level s)

/-- WAKE_COMPARE_FIRE (R163). -/
def execWakeCompareFire (s : State) : Result := .next (unlessHeld fireIfDue s)

/-- TIME_WRAP (R158): the millisecond in which the count passes 2^40 - 1, and none other (log 20). An armed target is
reached before any wrap carries field time below it (R163), so a compare still armed fires first, at 2^40 - 1. -/
def execTimeWrap (s : State) : Result :=
  .next (if s.clock.now = lastTime then passMillisecond (unlessHeld fireIfDue s) else s)

/-- QUIET_THRESHOLD_EXPIRY (R167). -/
def execQuietThresholdExpiry (s : State) : Result := .next (unlessHeld quietIfDue s)

/-- ACTION_THRESHOLD_EXPIRY (R167). -/
def execActionThresholdExpiry (s : State) : Result := .next (unlessHeld actionIfDue s)

end Sys2Proof.Machine
end

