-- ==== Sys2Proof/Machine/Exchange.lean ====
section
/-! DEFINITION. The Spur Engine: taking copies, transmissions and their conflicts, the waits, bursts and closes, and
the judgement of every reception (R94 to R110, R37). -/

namespace Sys2Proof.Machine

/-! ## The engine's moves -/

/-- One engine changed. -/
def modifyEngine (n : SpurId) (f : Engine → Engine) (s : State) : State :=
  modifySpur n (fun sp => { sp with engine := f sp.engine }) s

/-- The spur's receiver enters WAITING as the transmission ends (R36). -/
def endTransmission (n : SpurId) (s : State) : State := modifySpur n (fun sp => { sp with rx := .waiting }) s

/-- The engine waits in a state with a timer started now (R94). -/
def startWait (n : SpurId) (state : EngineState) (kind : TimerKind) (length : Nat) (s : State) : State :=
  modifyEngine n (fun e => { e with state := state, timer := some ⟨kind, s.clock.now, length⟩ }) s

/-- The CLOSE of a burst (R104). -/
def closeFrame (b : Burst) (s : State) : Frame where
  destination := b.station
  source := station s
  kind := .close
  more := false
  echo := false
  channel := b.channel
  sequence := b.lastSequence
  payload := []

/-- The engine enters CLOSING: it builds the CLOSE and transmits it (R104). -/
def sendClose (n : SpurId) (b : Burst) (s : State) : State :=
  modifySpur n
    (fun sp =>
      { sp with
        rx := .own
        engine :=
          { sp.engine with
            state := .closing, outstanding := some ⟨closeFrame b s, false, false⟩, timer := none } })
    s

/-- The engine enters a state with no outstanding record, burst or timer. -/
def clearRecords (n : SpurId) (state : EngineState) (s : State) : State :=
  modifyEngine n (fun e => { e with state := state, outstanding := none, burst := none, timer := none }) s

/-- The engine enters IDLE, where a claim that waits is granted first (R95). -/
def enterIdle (n : SpurId) (s : State) : State := grantIfDue n (clearRecords n .idle s)

/-- An exchange ends as a success (R101). -/
def endSuccess (n : SpurId) (s : State) : State :=
  match s.spurs[n].engine.burst with
  | none => enterIdle n s
  | some b => if b.autoClose then sendClose n b s else enterIdle n s

/-- An exchange ends as a failure, with the failure's flags (R101). -/
def endFailure (n : SpurId) (flags : BitVec 11) (s : State) : State :=
  match s.spurs[n].engine.burst with
  | none => grantIfDue n (setSpurFlags n flags (clearRecords n .idle s))
  | some _ => setSpurFlags n (flags ||| SpurFlag.closeNotSent.bit) (clearRecords n .stalled s)

/-- A close fails: its flags are set, the records clear, and the engine stalls (R104, R105). -/
def failClose (n : SpurId) (flags : BitVec 11) (s : State) : State :=
  setSpurFlags n flags (clearRecords n .stalled s)

/-! ## Taking a copy (R95, R96, R102) -/

/-- Whether a copy belongs to a burst (R96). -/
def Copy.ofBurst (b : Burst) (c : Copy) : Bool :=
  decide (c.frame.channel = b.channel) && decide (c.frame.destination = b.station)

/-- The copy that the engine takes as it stands, with the queue it leaves: the head in IDLE with no claim waiting,
the first copy of the burst in IN_BURST (R95, R96, R102). -/
def nextCopy (sp : Spur) : Option (Copy × List Copy) :=
  match sp.engine.state with
  | .idle =>
    if sp.engine.claimWaiting then none
    else
      match sp.queue with
      | [] => none
      | c :: rest => some (c, rest)
  | .inBurst =>
    match sp.engine.burst with
    | none => none
    | some b =>
      match sp.queue.find? (Copy.ofBurst b) with
      | none => none
      | some c => some (c, sp.queue.eraseP (Copy.ofBurst b))
  | _ => none

/-- A copy taken from the queue becomes outstanding and is sent (R96). -/
def takeCopy (n : SpurId) (c : Copy) (rest : List Copy) (s : State) : State :=
  modifySpur n
    (fun sp =>
      { sp with
        rx := .own
        queue := rest
        engine := { sp.engine with state := .sending, outstanding := some c, timer := none } })
    s

/-! ## Completions -/

/-- The burst record after a burst copy or the last frame of a burst completes (R97). -/
def Burst.refresh (c : Copy) (b : Burst) : Burst :=
  { b with autoClose := c.autoClose, lastSequence := c.frame.sequence }

/-- The burst that a copy with more 1 opens (R97). -/
def Burst.begin (c : Copy) : Burst := ⟨c.frame.channel, c.frame.destination, c.autoClose, c.frame.sequence⟩

/-- A COMMAND with more 1 is complete: the burst opens or goes on (R97, R102). -/
def continueBurst (n : SpurId) (c : Copy) (s : State) : State :=
  startWait n .inBurst .burstGap s.spurs[n].burstGap
    (modifyEngine n
      (fun e =>
        { e with
          outstanding := none
          burst :=
            match e.burst with
            | none => some (Burst.begin c)
            | some b => some (b.refresh c) })
      s)

/-- A COMMAND with more 0 refreshes an open burst record (R97). -/
def refreshBurst (n : SpurId) (c : Copy) (s : State) : State :=
  modifyEngine n (fun e => { e with burst := e.burst.map (Burst.refresh c) }) s

/-- A COMMAND's transmission is complete (R97). -/
def completeCommand (n : SpurId) (c : Copy) (s : State) : State :=
  let s := endTransmission n s
  if c.frame.more then continueBurst n c s
  else
    let s := refreshBurst n c s
    if c.expectsResponse then startWait n .awaitingResponse .responseWindow s.spurs[n].responseWindow s
    else endSuccess n s

/-! ## Timers -/

/-- Whether an engine in a state has a running timer of a kind that has expired (R94, R159). -/
def engineTimerDue (n : SpurId) (state : EngineState) (kind : TimerKind) (s : State) : Bool :=
  decide (s.spurs[n].engine.state = state)
    && match s.spurs[n].engine.timer with
      | none => false
      | some t => decide (t.kind = kind) && expired t.start t.length s.clock.now

/-- The burst gap expires (R103). -/
def expireGap (n : SpurId) (s : State) : State :=
  let s := setSpurFlags n SpurFlag.burstTimeout.bit s
  match s.spurs[n].engine.burst with
  | none => enterIdle n s
  | some b => if b.autoClose then sendClose n b s else enterIdle n s

/-! ## Receptions (R37, R99, R105, R109, R110) -/

/-- A classified reception (R37). -/
inductive Offer where
  /-- damaged, class END -/
  | badEnd
  /-- damaged, class CHECK -/
  | badCheck
  /-- a valid frame -/
  | frame (f : Frame)
deriving DecidableEq, Repr

/-- The class of a completed reception (R37, orders 2 to 4). -/
def classify (bytes : List Byte) : Offer :=
  match verdict bytes with
  | .short => .badEnd
  | .check => .badCheck
  | .unknownKind => .badCheck
  | .valid f => .frame f

/-- A valid RESPONSE of channel 0 (R99, R105, R110). -/
def Frame.strayResponse (f : Frame) : Bool := decide (f.kind = .response) && decide (f.channel = 0)

/-- A reception in AWAITING_RESPONSE, against the outstanding COMMAND (R99). On acceptance the exchange ends before
the frame's admission is taken (log 15). -/
def judgeResponse (n : SpurId) (c : Copy) (o : Offer) (s : State) : State :=
  match o with
  | .badCheck => endFailure n SpurFlag.check.bit s
  | .badEnd => endFailure n SpurFlag.ends.bit s
  | .frame f =>
    if f.strayResponse then setSpurFlags n SpurFlag.stray.bit s
    else if f.source ≠ c.frame.destination then setSpurFlags n SpurFlag.stray.bit s
    else if f.kind ≠ .response then setSpurFlags n SpurFlag.unsolicited.bit s
    else arriveUp n f (endSuccess n s)

/-- A reception in AWAITING_CLOSE_ACK, against the outstanding CLOSE (R105). -/
def judgeCloseAck (n : SpurId) (c : Copy) (o : Offer) (s : State) : State :=
  match o with
  | .badCheck => failClose n SpurFlag.closeCheck.bit s
  | .badEnd => failClose n SpurFlag.closeEnd.bit s
  | .frame f =>
    if f.strayResponse then setSpurFlags n SpurFlag.stray.bit s
    else if f.source ≠ c.frame.destination then setSpurFlags n SpurFlag.stray.bit s
    else if f.kind ≠ .closeAck then setSpurFlags n SpurFlag.unsolicited.bit s
    else enterIdle n s

/-- A reception in CHECKING while an echo is awaited, against the outstanding TEST (R109). -/
def judgeEcho (n : SpurId) (c : Copy) (o : Offer) (s : State) : State :=
  match o with
  | .badCheck => concludeTest n .mismatched s
  | .badEnd => concludeTest n .mismatched s
  | .frame f =>
    if f.source = c.frame.destination then concludeTest n (echoReport f s) s
    else setSpurFlags n SpurFlag.stray.bit s

/-- A reception nobody awaits (R110). -/
def judgeUnawaited (n : SpurId) (o : Offer) (s : State) : State :=
  match o with
  | .badCheck => setSpurFlags n SpurFlag.unsolicited.bit s
  | .badEnd => setSpurFlags n SpurFlag.unsolicited.bit s
  | .frame f =>
    if f.strayResponse then setSpurFlags n SpurFlag.stray.bit s
    else setSpurFlags n SpurFlag.unsolicited.bit s

/-- The engine judges a reception by its state. In SENDING and CLOSING, and in CHECKING while the TEST is on the
line, the receiver is in OWN and offers nothing (R36). -/
def judge (n : SpurId) (o : Offer) (s : State) : State :=
  let e := s.spurs[n].engine
  match e.state, e.outstanding with
  | .awaitingResponse, some c => judgeResponse n c o s
  | .awaitingCloseAck, some c => judgeCloseAck n c o s
  | .checking, some c => if e.timer.isSome then judgeEcho n c o s else s
  | .off, _ => judgeUnawaited n o s
  | .idle, _ => judgeUnawaited n o s
  | .inBurst, _ => judgeUnawaited n o s
  | .stalled, _ => judgeUnawaited n o s
  | _, _ => s

/-- The spur receiver takes one symbol, and a reception that it ends is offered to the engine (R36, R37). With the
drive off the line is ignored. -/
def spurSymbol (n : SpurId) (s : State) (x : Symbol) : State :=
  if s.spurs[n].drive then
    match s.spurs[n].rx.take x with
    | (rx, .going) => modifySpur n (fun sp => { sp with rx := rx }) s
    | (rx, .broken) => judge n .badEnd (modifySpur n (fun sp => { sp with rx := rx }) s)
    | (rx, .complete bytes) => judge n (classify bytes) (modifySpur n (fun sp => { sp with rx := rx }) s)
  else s

/-! ## Commands -/

/-- The engine is in a state and transmitting. -/
def transmitting (n : SpurId) (state : EngineState) (s : State) : Bool :=
  decide (s.spurs[n].engine.state = state) && decide (s.spurs[n].rx = .own)

/-- SPUR_RECEPTION_END (R37): the symbols the line delivered, the last of them ending a reception. -/
def execSpurReceptionEnd (n : SpurId) (line : List Symbol) (s : State) : Result :=
  .next (unlessHeld (fun s => line.foldl (spurSymbol n) s) s)

/-- ENGINE_TAKE_COPY (R95, R96). -/
def execEngineTakeCopy (n : SpurId) (s : State) : Result :=
  .next
    (unlessHeld
      (fun s =>
        match nextCopy s.spurs[n] with
        | none => s
        | some (c, rest) => takeCopy n c rest s)
      s)

/-- COMMAND_TRANSMIT_COMPLETE (R97). -/
def execCommandTransmitComplete (n : SpurId) (s : State) : Result :=
  .next
    (unlessHeld
      (fun s =>
        match transmitting n .sending s, s.spurs[n].engine.outstanding with
        | true, some c => completeCommand n c s
        | _, _ => s)
      s)

/-- CLOSE_TRANSMIT_COMPLETE (R104). -/
def execCloseTransmitComplete (n : SpurId) (s : State) : Result :=
  .next
    (unlessHeld
      (fun s =>
        if transmitting n .closing s then
          startWait n .awaitingCloseAck .closeWindow s.spurs[n].closeWindow (endTransmission n s)
        else s)
      s)

/-- TEST_TRANSMIT_COMPLETE (R109). -/
def execTestTransmitComplete (n : SpurId) (s : State) : Result :=
  .next
    (unlessHeld
      (fun s =>
        if transmitting n .checking s then
          startWait n .checking .responseWindow s.spurs[n].responseWindow (endTransmission n s)
        else s)
      s)

/-- COMMAND_CONFLICT (R98). -/
def execCommandConflict (n : SpurId) (s : State) : Result :=
  .next
    (unlessHeld
      (fun s =>
        if transmitting n .sending s then
          endFailure n (SpurFlag.check.bit ||| SpurFlag.timeout.bit) (endTransmission n s)
        else s)
      s)

/-- CLOSE_CONFLICT (R104). -/
def execCloseConflict (n : SpurId) (s : State) : Result :=
  .next
    (unlessHeld
      (fun s =>
        if transmitting n .closing s then
          failClose n (SpurFlag.closeCheck.bit ||| SpurFlag.closeTimeout.bit) (endTransmission n s)
        else s)
      s)

/-- TEST_CONFLICT (R109, R176). -/
def execTestConflict (n : SpurId) (s : State) : Result :=
  .next
    (unlessHeld
      (fun s =>
        if transmitting n .checking s then concludeTest n .mismatched (endTransmission n s) else s)
      s)

/-- RESPONSE_WINDOW_EXPIRY (R100). -/
def execResponseWindowExpiry (n : SpurId) (s : State) : Result :=
  .next
    (unlessHeld
      (fun s =>
        if engineTimerDue n .awaitingResponse .responseWindow s then
          endFailure n SpurFlag.timeout.bit s
        else s)
      s)

/-- BURST_GAP_EXPIRY (R103). -/
def execBurstGapExpiry (n : SpurId) (s : State) : Result :=
  .next (unlessHeld (fun s => if engineTimerDue n .inBurst .burstGap s then expireGap n s else s) s)

/-- CLOSE_WINDOW_EXPIRY (R105). -/
def execCloseWindowExpiry (n : SpurId) (s : State) : Result :=
  .next
    (unlessHeld
      (fun s =>
        if engineTimerDue n .awaitingCloseAck .closeWindow s then failClose n SpurFlag.closeTimeout.bit s
        else s)
      s)

/-- ECHO_WINDOW_EXPIRY (R109, R176). -/
def execEchoWindowExpiry (n : SpurId) (s : State) : Result :=
  .next
    (unlessHeld
      (fun s => if engineTimerDue n .checking .responseWindow s then concludeTest n .missing s else s)
      s)

end Sys2Proof.Machine
end

