-- ==== Sys2Proof/Machine/Trunk.lean ====
section
/-! DEFINITION. The Trunk Port and the Trunk Arbiter: reception, validation, dispatch, the request queue's door, the
take and the completion of a transmission (R23 to R31, R35, R83, R84, R180). -/

namespace Sys2Proof.Machine

/-! ## Trunk errors (R25) -/

/-- The five trunk errors. -/
inductive TrunkError where
  | check
  | ends
  | short
  | badKind
  | wrongStation
deriving DecidableEq, Repr

/-- A trunk error counted in its own counter. -/
def countTrunkError (x : TrunkError) (c : TrunkErrors) : TrunkErrors :=
  match x with
  | .check => { c with check := satInc c.check }
  | .ends => { c with ends := satInc c.ends }
  | .short => { c with short := satInc c.short }
  | .badKind => { c with badKind := satInc c.badKind }
  | .wrongStation => { c with wrongStation := satInc c.wrongStation }

/-- A trunk error: counted, and TRUNK_ERROR raised. -/
def trunkError (x : TrunkError) (s : State) : State :=
  raise .trunkError { s with trunk := { s.trunk with errors := countTrunkError x s.trunk.errors } }

/-! ## Dispatch (R26 to R28, R180) -/

/-- A management request offered to the request queue (R180). -/
def offerRequest (q : Request) (s : State) : State :=
  if s.agent.requests.length < Config.requestCapacity then
    { s with agent := { s.agent with requests := s.agent.requests ++ [q] } }
  else raise .mgmtOverflow s

/-- A MGMT_REQUEST for the part (R27). -/
def takeMgmtRequest (f : Frame) (s : State) : State :=
  if f.payload.length < 2 then trunkError .short s else offerRequest ⟨f.source, f.payload⟩ s

/-- The profile a WAKE frame's payload names: DAY, DUSK or WAKE_TARGET (R28). -/
def wakeFrameTarget (f : Frame) (s : State) : Profile :=
  match f.payload with
  | [] => s.profiles.wakeTarget
  | b :: _ =>
    match Profile.ofCode b.toNat with
    | some .day => .day
    | some .dusk => .dusk
    | _ => s.profiles.wakeTarget

/-- A WAKE frame for the part (R28). -/
def takeWakeFrame (f : Frame) (s : State) : State :=
  let s := raise .wakeFrame s
  makeRequest .wakeFrame (wakeFrameTarget f s) s

/-- Whether a frame is for the part: its address, or broadcast (R26). -/
def addressed (f : Frame) (s : State) : Bool :=
  decide (f.destination = station s) || decide (f.destination = 0xFF)

/-- A valid frame goes to the block that acts on it, or is refused (R26). -/
def dispatch (f : Frame) (s : State) : State :=
  match f.kind with
  | .command =>
    if f.destination = station s ∨ f.channel = 0 then trunkError .badKind s else arriveDown f s
  | .mgmtRequest => if addressed f s then takeMgmtRequest f s else trunkError .wrongStation s
  | .wake => if addressed f s then takeWakeFrame f s else trunkError .wrongStation s
  | .response => trunkError .badKind s
  | .close => trunkError .badKind s
  | .closeAck => trunkError .badKind s
  | .test => trunkError .badKind s
  | .mgmtResponse => trunkError .badKind s
  | .notice => trunkError .badKind s

/-- A completed trunk reception is validated; a valid frame restarts the silence watch when it arrives, before its
dispatch (R24, R26). -/
def validate (bytes : List Byte) (s : State) : State :=
  match verdict bytes with
  | .short => trunkError .short s
  | .check => trunkError .check s
  | .unknownKind => trunkError .badKind (restartWatch s)
  | .valid f => dispatch f (restartWatch s)

/-- The trunk receiver takes one symbol (R23). -/
def trunkSymbol (s : State) (x : Symbol) : State :=
  match s.trunk.rx.take x with
  | (rx, .going) => { s with trunk := { s.trunk with rx := rx } }
  | (rx, .broken) => trunkError .ends { s with trunk := { s.trunk with rx := rx } }
  | (rx, .complete bytes) => validate bytes { s with trunk := { s.trunk with rx := rx } }

/-! ## Transmission (R30, R31, R35, R83, R84) -/

/-- The presence summary: bit n set when Sn is engine-present (R35). -/
def presenceSummary (s : State) : SpurSet := spurSetOf fun n => s.spurs[n].enginePresent

/-- The notice snapshot (R35). -/
def noticePayload (s : State) : List Byte :=
  bytes32 (s.agent.status.setWidth 32)
    ++ [byteOf s.profiles.applied.code, byteOf ((phase s).elim 0 Phase.code)]
    ++ bytes40 s.clock.now ++ [(presenceSummary s).setWidth 8]

/-- The NOTICE as it is taken (R31, R84). -/
def noticeFrame (s : State) : Frame where
  destination := 0x00
  source := station s
  kind := .notice
  more := false
  echo := false
  channel := 0
  sequence := s.trunk.sequence
  payload := noticePayload s

/-- A response as it is taken (R31). -/
def responseFrame (r : Response) (s : State) : Frame where
  destination := r.destination
  source := r.source
  kind := .mgmtResponse
  more := false
  echo := false
  channel := 0
  sequence := s.trunk.sequence
  payload := r.payload

/-- The transmitter goes to SENDING with a forwarded frame. -/
def sendForwarded (f : Frame) (s : State) : State := { s with trunk := { s.trunk with tx := some f } }

/-- The transmitter goes to SENDING with a frame the part originates, and the trunk sequence number advances (R31). -/
def sendOriginated (f : Frame) (s : State) : State :=
  { s with trunk := { s.trunk with tx := some f, sequence := s.trunk.sequence + 1 } }

/-- The class queue that the Arbiter takes from: the highest that holds a frame (R83). -/
def firstClass (s : State) : Option (Fin 4) :=
  [(3 : Fin 4), 2, 1, 0].find? fun q => !s.arbiter.classQueues[q].isEmpty

/-- A class queue gives its head frame (R80, R83). -/
def takeClass (q : Fin 4) (s : State) : State :=
  match s.arbiter.classQueues[q] with
  | [] => s
  | f :: rest =>
    sendForwarded f
      { s with arbiter := { s.arbiter with classQueues := s.arbiter.classQueues.set q rest } }

/-- The Arbiter's choice (R83): the head response, the notice, then Q3 down to Q0. -/
def arbiterTake (s : State) : State :=
  match s.arbiter.responses with
  | r :: rest =>
    sendOriginated (responseFrame r s) { s with arbiter := { s.arbiter with responses := rest } }
  | [] =>
    if s.arbiter.notice then
      sendOriginated (noticeFrame s) { s with arbiter := { s.arbiter with notice := false } }
    else
      match firstClass s with
      | some q => takeClass q s
      | none => s

/-- Whether a trunk queue holds something to send. -/
def trunkWaiting (s : State) : Bool :=
  !s.arbiter.responses.isEmpty || s.arbiter.notice || (firstClass s).isSome

/-- Whether a completed frame is a RESTART's response (R30, R192): a MGMT_RESPONSE whose operation is RESTART. While
the mark is set the first of them is the one that asked for the reset (log 29). -/
def restartAnswer (f : Frame) : Bool := decide (f.kind = .mgmtResponse) && decide (f.payload.head? = some 0x0F)

/-- A transmission is complete: FREE, and the warm reset of a RESTART begins (R30, R192). -/
def completeTransmission (f : Frame) (s : State) : State :=
  let restart := s.agent.restartDue && restartAnswer f
  let s := { s with trunk := { s.trunk with tx := none } }
  if restart then ownReset s else s

/-! ## Commands -/

/-- TRUNK_RECEPTION_END (R23): the symbols the line delivered, the last of them ending a reception. -/
def execTrunkReceptionEnd (line : List Symbol) (s : State) : Result :=
  .next (unlessHeld (fun s => line.foldl trunkSymbol s) s)

/-- TRUNK_TRANSMIT_COMPLETE (R30). -/
def execTrunkTransmitComplete (s : State) : Result :=
  .next
    (unlessHeld
      (fun s =>
        match s.trunk.tx with
        | none => s
        | some f => completeTransmission f s)
      s)

/-- ARBITER_TAKE (R83). -/
def execArbiterTake (s : State) : Result :=
  .next (unlessHeld (fun s => if s.trunk.tx.isNone then arbiterTake s else s) s)

end Sys2Proof.Machine
end

