-- ==== Sys2Proof/Machine/Management.lean ====
section
/-! DEFINITION. The execution of a management request, and the checks that attribute operations share (R32, R181,
R182, R184). -/

namespace Sys2Proof.Machine

/-- The head request has left the request queue (R181). -/
def popRequest (s : State) : State := { s with agent := { s.agent with requests := s.agent.requests.tail } }

/-- Whether a command is the execution of the request at the head of the queue, with room in the response queue
(R81, R181). -/
def executable (c : Instr) (rq : Request) (s : State) : Bool :=
  !s.held && decide (s.agent.requests.head? = some rq) && decide (Instr.ofRequest rq = c)
    && decide (s.arbiter.responses.length < Config.responseCapacity)

/-- The execution of a management request, whole: the request leaves the queue and its operation runs and answers
(R181). A command that is not the execution now due has no effect (log 2, 18). -/
def onHead (c : Instr) (rq : Request) (body : State → State) (s : State) : Result :=
  .next (if executable c rq s then body (popRequest s) else s)

/-- An answer that carries a status alone. -/
def reply (rq : Request) (x : State × Status) : State := answer rq x.2 [] x.1

/-- A change that is answered OK, or BAD_VALUE where there is none. -/
def accepted (change : Option State) (s : State) : State × Status :=
  match change with
  | some s' => (s', .ok)
  | none => (s, .badValue)

/-! ## Attributes: the shared checks (R32, R184) -/

/-- The attribute and index of a READ_ATTR, or the status that refuses it. -/
def checkRead (rq : Request) : Except Status (Attr × Nat) :=
  match readOperands rq with
  | none => .error .badValue
  | some (identifier, index) =>
    match Attr.ofIdentifier identifier with
    | none => .error .badIndex
    | some a => if index < a.indexes then .ok (a, index) else .error .badIndex

/-- The attribute, index and value of a WRITE_ATTR, or the status that refuses it before the owner's checks. -/
def checkWrite (rq : Request) : Except Status (Attr × Nat × Value) :=
  match writeOperands rq with
  | none => .error .badValue
  | some (identifier, index, v) =>
    match Attr.ofIdentifier identifier with
    | none => .error .badIndex
    | some a =>
      if index < a.indexes then
        if a.writable index then .ok (a, index, v) else .error .badValue
      else .error .badIndex

/-- A WRITE_ATTR that passed the shared checks goes to its owner with its value; the rest is answered. -/
def writeBy (rq : Request) (owner : Value → State → State × Status) (s : State) : State :=
  match checkWrite rq with
  | .error status => reply rq (s, status)
  | .ok (_, _, v) => reply rq (owner v s)

/-- A WRITE_ATTR whose effect can be a warm reset: it is answered before the effect, so that a reset loses the answer
(log 13). -/
def writeThen (rq : Request) (owner : Value → State → State × Status) (effect : State → State) (s : State) :
    State :=
  match checkWrite rq with
  | .error status => reply rq (s, status)
  | .ok (_, _, v) =>
    match owner v s with
    | (s, .ok) => effect (reply rq (s, .ok))
    | (s, status) => reply rq (s, status)

/-! ## Per-spur attributes (R186) -/

/-- The lowest-numbered selected spur; the mask is never empty (log 30). -/
def firstSelected (s : State) : SpurId := (spursOf s.agent.spurSelect).head?.getD 0

/-- Something done to each selected spur in the same event. -/
def onSelected (f : SpurId → State → State) (s : State) : State :=
  (spursOf s.agent.spurSelect).foldl (fun s n => f n s) s

end Sys2Proof.Machine
end

