-- ==== Sys2Proof/Machine/Attributes.lean ====
section
/-! DEFINITION. The attributes: READ_ATTR, WRITE_ATTR, and the writes that have a row of their own (R184 to R189 and
the rules that R185 names). -/

namespace Sys2Proof.Machine

/-! ## Reading (R184, R185) -/

/-- A flag as a value. -/
def valueOfFlag (b : Bool) : Value := if b then 1 else 0

/-- A Nat as a value. -/
def valueOf (n : Nat) : Value := BitVec.ofNat 32 n

/-- The high bits of a field time: bits 39..32. -/
def timeHigh (t : Time) : Value := (t.extractLsb' 32 8).setWidth 32

/-- The low word of a field time: bits 31..0. -/
def timeLow (t : Time) : Value := t.extractLsb' 0 32

/-- PHASE (R133). -/
def readPhase (index : Nat) (t : Option Transition) : Value :=
  match t with
  | none => if index = 1 ∨ index = 2 then 0xFF else 0
  | some t =>
    match index with
    | 0 => valueOf t.phase.code
    | 1 => valueOf t.source.code
    | 2 => valueOf t.target.code
    | _ => t.closing.setWidth 32

/-- PENDING (R130). -/
def readPending (index : Nat) (q : Option ProfileRequest) : Value :=
  match q with
  | none => 0xFF
  | some q => if index = 0 then valueOf q.target.code else valueOf q.source.code

/-- LAST_REFUSAL (R128). -/
def readRefusal (index : Nat) (r : Option RefusalRecord) : Value :=
  match r with
  | none => 0
  | some r =>
    match index with
    | 0 => valueOf (r.cause.code + 256 * r.target.code + 65536 * r.source.code)
    | 1 => timeHigh r.time
    | _ => timeLow r.time

/-- HOLD_OCCUPANCY (R72). -/
def readOccupancy (index : Nat) (records : List HeldFrame) : Value :=
  match index with
  | 0 => valueOf records.length
  | 1 => valueOf (records.countP fun r => decide (r.port = .trunk))
  | k + 2 => valueOf (records.countP fun r => decide (r.port = .spur (Fin.ofNat 6 k)))

/-- CAPTURE_CURRENT and CAPTURE_PREVIOUS (R161). -/
def readCapture (index : Nat) (c : Capture) : Value :=
  match index with
  | 0 => valueOf c.cause.code
  | 1 => timeHigh c.time
  | _ => timeLow c.time

/-- WAKE_COMPARE (R162). -/
def readCompare (index : Nat) (c : Clock) : Value :=
  if index = 0 then timeHigh c.compareTarget ||| (valueOfFlag c.compareArmed <<< 8)
  else timeLow c.compareTarget

/-- TRUNK_WATCH (R165). -/
def readWatch (index : Nat) (w : Watch) : Value :=
  match index with
  | 0 => valueOfFlag w.enabled
  | 1 => valueOfFlag w.direct
  | 2 => valueOf w.quietThreshold
  | 3 => valueOf w.actionThreshold
  | 4 => valueOf w.action.code
  | 5 => valueOf w.fallback.code
  | _ => valueOf w.stage.code

/-- TRUNK_ERRORS (R25). -/
def readTrunkErrors (index : Nat) (c : TrunkErrors) : Value :=
  match index with
  | 0 => c.check.setWidth 32
  | 1 => c.ends.setWidth 32
  | 2 => c.short.setWidth 32
  | 3 => c.badKind.setWidth 32
  | _ => c.wrongStation.setWidth 32

/-- LINE_CHECK (R170). -/
def readCheck (index : Nat) (c : LineCheck) : Value :=
  match index with
  | 0 => valueOf c.target.val
  | 1 => c.station.setWidth 32
  | 2 => valueOf c.pattern.code
  | 3 => valueOf c.length
  | 4 => valueOf c.count
  | 5 => c.sent.setWidth 32
  | 6 => c.mismatched.setWidth 32
  | 7 => c.missing.setWidth 32
  | _ => valueOf c.outcome.code

/-- STATION_OVERRIDE: the address in the low 8 bits, the enable in bit 8 (R29). -/
def readOverride (a : Agent) : Value := a.overrideAddress.setWidth 32 ||| (valueOfFlag a.overrideEnabled <<< 8)

/-- STRAPS: the sampled ADDR value, plus 16 when START was sampled high (R29). -/
def readStraps (x : Straps) : Value := x.addr.setWidth 32 ||| (valueOfFlag x.start <<< 4)

/-- WAITING (R113). -/
def Spur.waiting (sp : Spur) : Bool := decide (sp.engine.state = .stalled) && !sp.queue.isEmpty

/-- SPUR_STATUS (R113). -/
def readSpurStatus (sp : Spur) : Value := sp.errors.setWidth 32 ||| (valueOfFlag sp.waiting <<< 15)

/-- The value of an attribute's index as it stands (R184). -/
def readAttribute (a : Attr) (index : Nat) (s : State) : Value :=
  let sp := s.spurs[firstSelected s]
  match a with
  | .partId => Config.partId
  | .station => (station s).setWidth 32
  | .stationOverride => readOverride s.agent
  | .straps => readStraps s.agent.straps
  | .profile => if index = 0 then valueOf s.profiles.applied.code else valueOf s.profiles.admission.code
  | .phase => readPhase index s.profiles.transition
  | .pending => readPending index s.profiles.request
  | .lastRefusal => readRefusal index s.profiles.lastRefusal
  | .wakeTarget => valueOf s.profiles.wakeTarget.code
  | .missPolicyUp => valueOfFlag s.admission.forwardUp
  | .missPolicyDown => valueOfFlag s.admission.floodDown
  | .missCountUp => s.admission.missUp.setWidth 32
  | .missCountDown => s.admission.missDown.setWidth 32
  | .holdMark m => valueOf s.hold.marks[m]
  | .holdMaxAge => valueOf s.hold.maxAge
  | .holdOccupancy => readOccupancy index s.hold.records
  | .holdDiscards => s.hold.discards.setWidth 32
  | .eventStatus => s.agent.status.setWidth 32
  | .recordEnable => s.agent.record.setWidth 32
  | .notifyEnable => s.agent.notify.setWidth 32
  | .fieldTime => if index = 0 then timeHigh s.clock.now else timeLow s.clock.now
  | .captureCurrent => readCapture index s.clock.current
  | .capturePrevious => readCapture index s.clock.previous
  | .wakeCompare => readCompare index s.clock
  | .wakePinPolarity => valueOfFlag s.clock.wakeActiveLow
  | .gatePolarity => valueOfFlag s.spurLines.gateInverted
  | .trunkWatch => readWatch index s.watch
  | .trunkErrors => readTrunkErrors index s.trunk.errors
  | .saveLost => s.retention.saveLost.setWidth 32
  | .restoreSkipCount => valueOf s.retention.skipCount
  | .lineCheck => readCheck index s.check
  | .spurSelect => s.agent.spurSelect.setWidth 32
  | .force => valueOfFlag sp.force
  | .follow => valueOfFlag sp.follow
  | .drive => valueOfFlag sp.drive
  | .presence => valueOf sp.presence.code
  | .settle => valueOf sp.settle
  | .earlyLeave => valueOfFlag sp.earlyLeave
  | .responseWindow => valueOf sp.responseWindow
  | .closeWindow => valueOf sp.closeWindow
  | .burstGap => valueOf sp.burstGap
  | .spurStatus => readSpurStatus sp
  | .engineState => valueOf sp.engine.state.code
  | .queueDepth => valueOf sp.queue.length
  | .spurLost => sp.lost.setWidth 32

/-! ## Writing: the owners' checks and changes -/

/-- WAKE_TARGET (R123): DAY or DUSK. -/
def writeWakeTarget (v : Value) (s : State) : Option State :=
  match Profile.ofCode v.toNat with
  | some .day => some { s with profiles := { s.profiles with wakeTarget := .day } }
  | some .dusk => some { s with profiles := { s.profiles with wakeTarget := .dusk } }
  | _ => none

/-- MISS_POLICY_UP (R15; log 10). -/
def writeForwardUp (v : Value) (s : State) : Option State :=
  (flagOfValue v).map fun b => { s with admission := { s.admission with forwardUp := b } }

/-- MISS_POLICY_DOWN (R15; log 10). -/
def writeFloodDown (v : Value) (s : State) : Option State :=
  (flagOfValue v).map fun b => { s with admission := { s.admission with floodDown := b } }

/-- HOLD_MARKn (R63). -/
def writeMark (m : Fin 4) (v : Value) (s : State) : Option State :=
  if 1 ≤ v.toNat ∧ v.toNat ≤ 64 then
    some { s with hold := { s.hold with marks := s.hold.marks.set m v.toNat } }
  else none

/-- NOTIFY_ENABLE (R189). -/
def writeNotify (v : Value) (s : State) : Option State :=
  if v.getLsbD 31 then none else some { s with agent := { s.agent with notify := v.setWidth 31 } }

/-- WAKE_PIN_POLARITY (R164): the write is not itself an edge. -/
def writeWakePolarity (v : Value) (s : State) : Option State :=
  (flagOfValue v).map fun b => { s with clock := { s.clock with wakeActiveLow := b } }

/-- TRUNK_WATCH index 4 (R165). -/
def writeWatchAction (v : Value) (s : State) : Option State :=
  (WatchAction.ofCode v.toNat).map fun a => { s with watch := { s.watch with action := a } }

/-- TRUNK_WATCH index 5 (R165). -/
def writeWatchFallback (v : Value) (s : State) : Option State :=
  (Profile.ofCode v.toNat).map fun p => { s with watch := { s.watch with fallback := p } }

/-- LINE_CHECK indexes 0 to 4: the setting with a value in range (R170). -/
def LineCheck.withSetting (index : Nat) (v : Value) (c : LineCheck) : Option LineCheck :=
  match index with
  | 0 => if h : v.toNat < 6 then some { c with target := ⟨v.toNat, h⟩ } else none
  | 1 => if v.toNat < 256 then some { c with station := v.setWidth 8 } else none
  | 2 => (Pattern.ofCode v.toNat).map fun p => { c with pattern := p }
  | 3 => if v.toNat ≤ 240 then some { c with length := v.toNat } else none
  | 4 => if 1 ≤ v.toNat ∧ v.toNat ≤ 65535 then some { c with count := v.toNat } else none
  | _ => none

/-- LINE_CHECK indexes 0 to 4: BUSY while a check waits or runs, before the range (R170, R182). -/
def writeCheck (index : Nat) (v : Value) (s : State) : State × Status :=
  if checkBusy s then (s, .busy)
  else accepted ((s.check.withSetting index v).map fun c => { s with check := c }) s

/-- SPUR_SELECT (R186). -/
def writeSelect (v : Value) (s : State) : Option State :=
  if 1 ≤ v.toNat ∧ v.toNat < 64 then some { s with agent := { s.agent with spurSelect := v.setWidth 6 } }
  else none

/-- RESPONSE_WINDOW (R111). -/
def writeResponseWindow (v : Value) (s : State) : Option State :=
  if 1 ≤ v.toNat ∧ v.toNat ≤ 255 then
    some (onSelected (fun n => modifySpur n fun sp => { sp with responseWindow := v.toNat }) s)
  else none

/-- CLOSE_WINDOW (R111). -/
def writeCloseWindow (v : Value) (s : State) : Option State :=
  if 1 ≤ v.toNat ∧ v.toNat ≤ 255 then
    some (onSelected (fun n => modifySpur n fun sp => { sp with closeWindow := v.toNat }) s)
  else none

/-- BURST_GAP (R111). -/
def writeBurstGap (v : Value) (s : State) : Option State :=
  if 1 ≤ v.toNat ∧ v.toNat ≤ 1023 then
    some (onSelected (fun n => modifySpur n fun sp => { sp with burstGap := v.toNat }) s)
  else none

/-- The writes that have no row of their own (R185). The attributes with a row never come here (log 17). -/
def writeAttribute (a : Attr) (index : Nat) (v : Value) (s : State) : State × Status :=
  match a with
  | .wakeTarget => accepted (writeWakeTarget v s) s
  | .missPolicyUp => accepted (writeForwardUp v s) s
  | .missPolicyDown => accepted (writeFloodDown v s) s
  | .holdMark m => accepted (writeMark m v s) s
  | .notifyEnable => accepted (writeNotify v s) s
  | .wakePinPolarity => accepted (writeWakePolarity v s) s
  | .trunkWatch => if index = 4 then accepted (writeWatchAction v s) s else accepted (writeWatchFallback v s) s
  | .lineCheck => writeCheck index v s
  | .spurSelect => accepted (writeSelect v s) s
  | .responseWindow => accepted (writeResponseWindow v s) s
  | .closeWindow => accepted (writeCloseWindow v s) s
  | .burstGap => accepted (writeBurstGap v s) s
  | _ => (s, .badValue)

/-- STATION_OVERRIDE (R29). -/
def writeOverride (v : Value) (s : State) : Option State :=
  if v.toNat < 512 ∧ v.extractLsb' 0 8 ≠ 0xFF then
    some
      { s with
        agent := { s.agent with overrideAddress := v.extractLsb' 0 8, overrideEnabled := v.getLsbD 8 } }
  else none

/-- HOLD_MAX_AGE: records whose age has reached the new value expire with the write (R65). -/
def writeMaxAge (v : Value) (s : State) : Option State :=
  if v.toNat ≤ 65535 then some (expireAllHeld { s with hold := { s.hold with maxAge := v.toNat } }) else none

/-- RECORD_ENABLE: the flags of the events that the new mask holds clear are cleared (R189). -/
def writeRecord (v : Value) (s : State) : Option State :=
  if v.getLsbD 31 then none
  else
    some
      { s with
        agent := { s.agent with record := v.setWidth 31, status := s.agent.status &&& v.setWidth 31 } }

/-- WAKE_COMPARE index 0: the high bits and the armed flag, tested at once when armed (R162, R163). -/
def writeCompareHigh (v : Value) (s : State) : Option State :=
  if v.toNat < 512 then
    some
      (fireIfDue
        { s with
          clock :=
            { s.clock with
              compareTarget := v.extractLsb' 0 8 ++ s.clock.compareTarget.extractLsb' 0 32
              compareArmed := v.getLsbD 8 } })
  else none

/-- WAKE_COMPARE index 1: the low bits; the compare is disarmed (R162). -/
def writeCompareLow (v : Value) (s : State) : State :=
  { s with
    clock :=
      { s.clock with
        compareTarget := s.clock.compareTarget.extractLsb' 32 8 ++ v
        compareArmed := false } }

/-- GATE_POLARITY, with its re-evaluation of all six spurs (R89, R90). -/
def writePolarity (v : Value) (s : State) : Option State :=
  (flagOfValue v).map fun b =>
    evaluateDrives allSpurs { s with spurLines := { s.spurLines with gateInverted := b } }

/-- FORCE of the selected spurs, with their re-evaluation (R89, R90). -/
def writeForce (v : Value) (s : State) : Option State :=
  (flagOfValue v).map fun b =>
    evaluateDrives (spursOf s.agent.spurSelect)
      (onSelected (fun n => modifySpur n fun sp => { sp with force := b }) s)

/-- FOLLOW of the selected spurs, with their re-evaluation (R89, R90). -/
def writeFollow (v : Value) (s : State) : Option State :=
  (flagOfValue v).map fun b =>
    evaluateDrives (spursOf s.agent.spurSelect)
      (onSelected (fun n => modifySpur n fun sp => { sp with follow := b }) s)

/-- SETTLE of the selected spurs; a running timer is judged against it at once (R92). -/
def writeSettle (v : Value) (s : State) : Option State :=
  if v.toNat = 0 ∨ v.toNat = 4 ∨ v.toNat = 16 ∨ v.toNat = 64 then
    some
      (onSelected (fun n s => settleIfDue n (modifySpur n (fun sp => { sp with settle := v.toNat }) s)) s)
  else none

/-- EARLY_LEAVE of the selected spurs, with the change of engine-presence of a spur in LEAVING (R93). -/
def writeEarlyLeave (v : Value) (s : State) : Option State :=
  (flagOfValue v).map fun b => onSelected (fun n => changePresence n fun sp => { sp with earlyLeave := b }) s

/-- SPUR_LOST of the selected spurs (R79). -/
def clearLost (s : State) : State := onSelected (fun n => modifySpur n fun sp => { sp with lost := 0 }) s

/-- TRUNK_WATCH index 0 (R166). -/
def writeWatchEnable (v : Value) (s : State) : Option State :=
  (flagOfValue v).map fun b =>
    if b then startEpisode { s with watch := { s.watch with enabled := true } }
    else { s with watch := { s.watch with enabled := false, stage := .off } }

/-- TRUNK_WATCH index 1 (R166). -/
def writeWatchMode (v : Value) (s : State) : Option State :=
  (flagOfValue v).map fun b => restartWatch { s with watch := { s.watch with direct := b } }

/-- TRUNK_WATCH index 2, the threshold alone (R165). -/
def writeQuiet (v : Value) (s : State) : Option State :=
  if 1 ≤ v.toNat ∧ v.toNat ≤ 65535 then some { s with watch := { s.watch with quietThreshold := v.toNat } }
  else none

/-- TRUNK_WATCH index 3, the threshold alone (R165). -/
def writeAction (v : Value) (s : State) : Option State :=
  if 1 ≤ v.toNat ∧ v.toNat ≤ 65535 then some { s with watch := { s.watch with actionThreshold := v.toNat } }
  else none

/-! ## Commands -/

/-- READ_ATTR (R184). -/
def execReadAttr (rq : Request) (s : State) : Result :=
  onHead (.readAttr rq) rq
    (fun s =>
      match checkRead rq with
      | .error status => reply rq (s, status)
      | .ok (a, index) => answer rq .ok (bytes32 (readAttribute a index s)) s)
    s

/-- WRITE_ATTR of an attribute without a row of its own, and every WRITE_ATTR that the shared checks refuse (R184). -/
def execWriteAttr (rq : Request) (s : State) : Result :=
  onHead (.writeAttr rq) rq
    (fun s =>
      match checkWrite rq with
      | .error status => reply rq (s, status)
      | .ok (a, index, v) => reply rq (writeAttribute a index v s))
    s

/-- WRITE_STATION_OVERRIDE (R29). -/
def execWriteStationOverride (rq : Request) (s : State) : Result :=
  onHead (.writeStationOverride rq) rq (writeBy rq fun v s => accepted (writeOverride v s) s) s

/-- CLEAR_MISS_COUNT_UP (R15): any value. -/
def execClearMissCountUp (rq : Request) (s : State) : Result :=
  onHead (.clearMissCountUp rq) rq
    (writeBy rq fun _ s => ({ s with admission := { s.admission with missUp := 0 } }, .ok)) s

/-- CLEAR_MISS_COUNT_DOWN (R15): any value. -/
def execClearMissCountDown (rq : Request) (s : State) : Result :=
  onHead (.clearMissCountDown rq) rq
    (writeBy rq fun _ s => ({ s with admission := { s.admission with missDown := 0 } }, .ok)) s

/-- WRITE_HOLD_MAX_AGE (R65). -/
def execWriteHoldMaxAge (rq : Request) (s : State) : Result :=
  onHead (.writeHoldMaxAge rq) rq (writeBy rq fun v s => accepted (writeMaxAge v s) s) s

/-- CLEAR_HOLD_DISCARDS (R71): any value. -/
def execClearHoldDiscards (rq : Request) (s : State) : Result :=
  onHead (.clearHoldDiscards rq) rq
    (writeBy rq fun _ s => ({ s with hold := { s.hold with discards := 0 } }, .ok)) s

/-- WRITE_RECORD_ENABLE (R189). -/
def execWriteRecordEnable (rq : Request) (s : State) : Result :=
  onHead (.writeRecordEnable rq) rq (writeBy rq fun v s => accepted (writeRecord v s) s) s

/-- WRITE_WAKE_COMPARE_HIGH (R162, R163). -/
def execWriteWakeCompareHigh (rq : Request) (s : State) : Result :=
  onHead (.writeWakeCompareHigh rq) rq (writeBy rq fun v s => accepted (writeCompareHigh v s) s) s

/-- WRITE_WAKE_COMPARE_LOW (R162). -/
def execWriteWakeCompareLow (rq : Request) (s : State) : Result :=
  onHead (.writeWakeCompareLow rq) rq (writeBy rq fun v s => (writeCompareLow v s, .ok)) s

/-- WRITE_GATE_POLARITY (R90). -/
def execWriteGatePolarity (rq : Request) (s : State) : Result :=
  onHead (.writeGatePolarity rq) rq (writeBy rq fun v s => accepted (writePolarity v s) s) s

/-- WRITE_FORCE (R90). -/
def execWriteForce (rq : Request) (s : State) : Result :=
  onHead (.writeForce rq) rq (writeBy rq fun v s => accepted (writeForce v s) s) s

/-- WRITE_FOLLOW (R90). -/
def execWriteFollow (rq : Request) (s : State) : Result :=
  onHead (.writeFollow rq) rq (writeBy rq fun v s => accepted (writeFollow v s) s) s

/-- WRITE_SETTLE (R92). -/
def execWriteSettle (rq : Request) (s : State) : Result :=
  onHead (.writeSettle rq) rq (writeBy rq fun v s => accepted (writeSettle v s) s) s

/-- WRITE_EARLY_LEAVE (R93). -/
def execWriteEarlyLeave (rq : Request) (s : State) : Result :=
  onHead (.writeEarlyLeave rq) rq (writeBy rq fun v s => accepted (writeEarlyLeave v s) s) s

/-- CLEAR_SPUR_LOST (R79): any value. -/
def execClearSpurLost (rq : Request) (s : State) : Result :=
  onHead (.clearSpurLost rq) rq (writeBy rq fun _ s => (clearLost s, .ok)) s

/-- WRITE_WATCH_ENABLE (R166). -/
def execWriteWatchEnable (rq : Request) (s : State) : Result :=
  onHead (.writeWatchEnable rq) rq (writeBy rq fun v s => accepted (writeWatchEnable v s) s) s

/-- WRITE_WATCH_MODE (R166). -/
def execWriteWatchMode (rq : Request) (s : State) : Result :=
  onHead (.writeWatchMode rq) rq (writeBy rq fun v s => accepted (writeWatchMode v s) s) s

/-- WRITE_QUIET_THRESHOLD: in COUNTING the quiet step is taken with the write when the new value has expired (R167). -/
def execWriteQuietThreshold (rq : Request) (s : State) : Result :=
  onHead (.writeQuietThreshold rq) rq (writeThen rq (fun v s => accepted (writeQuiet v s) s) quietIfDue) s

/-- WRITE_ACTION_THRESHOLD: in QUIET the action step is taken with the write when the new value has expired (R167). -/
def execWriteActionThreshold (rq : Request) (s : State) : Result :=
  onHead (.writeActionThreshold rq) rq (writeThen rq (fun v s => accepted (writeAction v s) s) actionIfDue) s

end Sys2Proof.Machine
end

