-- ==== Sys2Proof/Machine/Operations.lean ====
section
/-! DEFINITION. The other management operations: contexts, SET_PROFILE, MARK, the clears, RESUME_SPUR, the line check,
RESTART, and the unknown operation (R56, R57, R106, R114, R124, R173, R178, R190 to R192, R32). -/

namespace Sys2Proof.Machine

/-! ## The operations' effects -/

/-- The position of READ_CONTEXT and CLEAR_CONTEXT, or the status that refuses it (R32, R56, R57). -/
def contextOperand (rq : Request) : Except Status Position :=
  match byteOperand rq with
  | none => .error .badValue
  | some b => if h : b.toNat < 128 then .ok ⟨b.toNat, h⟩ else .error .badIndex

/-- READ_CONTEXT of a position (R56). -/
def readContext (rq : Request) (i : Position) (s : State) : State :=
  match (workingContext i s).bind fun r => getContext r s with
  | some c => answer rq .ok c.image s
  | none => reply rq (s, .noContext)

/-- CLEAR_CONTEXT of a position (R57): the phase first, then by the working context. -/
def clearContext (i : Position) (s : State) : State × Status :=
  if tableLocked s then (s, .busy)
  else
    match workingContext i s with
    | some (.store i) => (freshenContext i s, .ok)
    | some (.slot _) => (supersede i s, .ok)
    | none => (s, .noContext)

/-- SET_PROFILE: the target's code, then the request's outcome (R124). -/
def setProfile (b : Byte) (s : State) : State × Status :=
  match Profile.ofCode b.toNat with
  | none => (s, .badValue)
  | some target => takeRequest ⟨.management, target⟩ s

/-- CLEAR_EVENTS (R190). -/
def clearEvents (v : Value) (s : State) : Option State :=
  if v.getLsbD 31 then none
  else some { s with agent := { s.agent with status := s.agent.status &&& ~~~(v.setWidth 31) } }

/-- A spur mask: bits above bit 5 are out of range (R106, R114). -/
def spurMask (b : Byte) : Option SpurSet := if b.toNat < 64 then some (b.setWidth 6) else none

/-- The spur error status of a spur cleared (R114). -/
def clearErrors (n : SpurId) (s : State) : State := modifySpur n (fun sp => { sp with errors := 0 }) s

/-- A STALLED engine goes to IDLE, where a waiting claim is granted (R106). -/
def resumeSpur (n : SpurId) (s : State) : State :=
  if s.spurs[n].engine.state = .stalled then
    grantIfDue n (modifySpur n (fun sp => { sp with engine := { sp.engine with state := .idle } }) s)
  else s

/-- Something done to each spur of a mask, or BAD_VALUE (R106, R114). -/
def onMask (f : SpurId → State → State) (b : Byte) (s : State) : State × Status :=
  accepted ((spurMask b).map fun m => (spursOf m).foldl (fun s n => f n s) s) s

/-- CHECK_START accepted: results and running state set anew, WAITING, the claim made; an IDLE engine grants it in this
event (R173, R174). -/
def acceptCheck (s : State) : State :=
  grantIfDue s.check.target
    (modifySpur s.check.target (fun sp => { sp with engine := { sp.engine with claimWaiting := true } })
      { s with
        check :=
          { s.check with
            sent := 0
            mismatched := 0
            missing := 0
            number := 0
            register := 0x1FF
            expected := none
            outcome := .waiting } })

/-- CHECK_START (R173). -/
def checkStart (s : State) : State × Status :=
  if checkBusy s then (s, .busy)
  else if s.spurs[s.check.target].presence ≠ .present ∨ s.spurs[s.check.target].engine.state = .stalled then
    (s, .refused .spurNotReady)
  else (acceptCheck s, .ok)

/-- The outcome STOPPED with no echo expected (R178). -/
def stopCheck (s : State) : State := { s with check := { s.check with outcome := .stopped, expected := none } }

/-- CHECK_STOP (R178). -/
def checkStop (s : State) : State :=
  match s.check.outcome with
  | .waiting =>
    modifySpur s.check.target (fun sp => { sp with engine := { sp.engine with claimWaiting := false } })
      (stopCheck s)
  | .running =>
    modifySpur s.check.target (fun sp => { sp with rx := sp.rx.release, engine := sp.engine.idled })
      (stopCheck s)
  | _ => s

/-- An operation with one argument byte: BAD_VALUE where it is missing (R32). -/
def withByte (rq : Request) (f : Byte → State → State × Status) (s : State) : State :=
  match byteOperand rq with
  | none => reply rq (s, .badValue)
  | some b => reply rq (f b s)

/-! ## Commands -/

/-- READ_CONTEXT (R56). -/
def execReadContext (rq : Request) (s : State) : Result :=
  onHead (.readContext rq) rq
    (fun s =>
      match contextOperand rq with
      | .error status => reply rq (s, status)
      | .ok i => readContext rq i s)
    s

/-- CLEAR_CONTEXT (R57). -/
def execClearContext (rq : Request) (s : State) : Result :=
  onHead (.clearContext rq) rq
    (fun s =>
      match contextOperand rq with
      | .error status => reply rq (s, status)
      | .ok i => reply rq (clearContext i s))
    s

/-- SET_PROFILE (R124). -/
def execSetProfile (rq : Request) (s : State) : Result :=
  onHead (.setProfile rq) rq (withByte rq setProfile) s

/-- MARK (R191). -/
def execMark (rq : Request) (s : State) : Result :=
  onHead (.mark rq) rq (fun s => reply rq (capture .mark s, .ok)) s

/-- CLEAR_EVENTS (R190). -/
def execClearEvents (rq : Request) (s : State) : Result :=
  onHead (.clearEvents rq) rq
    (fun s =>
      match maskOperand rq with
      | none => reply rq (s, .badValue)
      | some v => reply rq (accepted (clearEvents v s) s))
    s

/-- CLEAR_SPUR_ERRORS (R114). -/
def execClearSpurErrors (rq : Request) (s : State) : Result :=
  onHead (.clearSpurErrors rq) rq (withByte rq (onMask clearErrors)) s

/-- RESUME_SPUR (R106). -/
def execResumeSpur (rq : Request) (s : State) : Result :=
  onHead (.resumeSpur rq) rq (withByte rq (onMask resumeSpur)) s

/-- CHECK_START (R173). -/
def execCheckStart (rq : Request) (s : State) : Result :=
  onHead (.checkStart rq) rq (fun s => reply rq (checkStart s)) s

/-- CHECK_STOP (R178). -/
def execCheckStop (rq : Request) (s : State) : Result :=
  onHead (.checkStop rq) rq (fun s => reply rq (checkStop s, .ok)) s

/-- RESTART: the answer and the restart-due mark; the warm reset comes when the answer has been sent (R192). -/
def execRestart (rq : Request) (s : State) : Result :=
  onHead (.restart rq) rq
    (fun s => reply rq ({ s with agent := { s.agent with restartDue := true } }, .ok)) s

/-- UNKNOWN_OP (R32). -/
def execUnknownOp (rq : Request) (s : State) : Result :=
  onHead (.unknownOp rq) rq (fun s => reply rq (s, .unknownOp)) s

end Sys2Proof.Machine
end

