-- ==== Sys2Proof/Machine/Tables.lean ====
section
/-! DEFINITION. The table operations: the seven tables' reads, writes and deletes (R4 to R10, R119, R121, R144, R147,
R171, R183). -/

namespace Sys2Proof.Machine

/-! ## The shared forms -/

/-- READ_ENTRY of a table with `n` indexes: BAD_VALUE for missing bytes, BAD_INDEX, else OK with the marker and the
image, all zeros where the index holds nothing (R32, R33, R183). -/
def readEntry (rq : Request) (n length : Nat) (image : Fin n → Option (List Byte)) (s : State) : State :=
  match entryIndex rq with
  | none => reply rq (s, .badValue)
  | some index =>
    if h : index < n then
      match image ⟨index, h⟩ with
      | some bytes => answer rq .ok (1 :: bytes) s
      | none => answer rq .ok (0 :: List.replicate length 0) s
    else reply rq (s, .badIndex)

/-- WRITE_ENTRY of a table with `n` indexes and images of `length` bytes: BAD_VALUE for missing bytes, BAD_INDEX, then
the owner (R32, R183). -/
def writeEntry (rq : Request) (n length : Nat) (owner : Fin n → List Byte → State → State × Status) (s : State) :
    State :=
  match entryImage rq length with
  | none => reply rq (s, .badValue)
  | some (index, image) =>
    if h : index < n then reply rq (owner ⟨index, h⟩ image s) else reply rq (s, .badIndex)

/-- DELETE_ENTRY of a table with `n` indexes (R32, R183). -/
def deleteEntry (rq : Request) (n : Nat) (owner : Fin n → State → State × Status) (s : State) : State :=
  match entryIndex rq with
  | none => reply rq (s, .badValue)
  | some index => if h : index < n then reply rq (owner ⟨index, h⟩ s) else reply rq (s, .badIndex)

/-- Whether a transition is in flight (R122). -/
def inFlight (s : State) : Bool := s.profiles.transition.isSome

/-! ## CHANNEL -/

/-- Every held frame of a position is removed and counted (R70, R71). -/
def discardHeld (i : Position) (s : State) : State :=
  { s with
    hold :=
      { s.hold with
        records := s.hold.records.filter fun r => decide (r.index ≠ i)
        discards := satAdd s.hold.discards (s.hold.records.countP fun r => decide (r.index = i)) } }

/-- A position takes an entry or is emptied, with the consequences of R7: its context FRESH, its held frames
discarded, its slot superseded (R6, R7). -/
def changePosition (i : Position) (e : Option Entry) (s : State) : State :=
  supersede i (discardHeld i (freshenContext i { s with table := s.table.set i e }))

/-- Whether another position holds an entry with the same channel and direction (R4, order 4). -/
def duplicates (i : Position) (e : Entry) (s : State) : Bool :=
  allPositions.any fun j => decide (j ≠ i) && s.table[j].any (Entry.serves e.channel e.direction)

/-- WRITE_ENTRY on CHANNEL from its second check on (R4). -/
def writeChannel (i : Position) (image : List Byte) (s : State) : State × Status :=
  if tableLocked s then (s, .busy)
  else
    match Entry.ofImage image with
    | none => (s, .badValue)
    | some e => if duplicates i e s then (s, .duplicate) else (changePosition i (some e) s, .ok)

/-- DELETE_ENTRY on CHANNEL from its second check on (R8). -/
def deleteChannel (i : Position) (s : State) : State × Status :=
  if tableLocked s then (s, .busy)
  else if s.table[i].isSome then (changePosition i none s, .ok)
  else (s, .ok)

/-! ## PROFILE, TRANSITION -/

/-- The profile of a Profile Table index (R118). -/
def profileOfIndex (i : Fin 3) : Profile :=
  match i with
  | 0 => .night
  | 1 => .dusk
  | 2 => .day

/-- WRITE_ENTRY on PROFILE from its second check on; new dormancy fields of the applied profile apply to the running
timer at once (R119, R132). -/
def writeProfile (i : Fin 3) (image : List Byte) (s : State) : State × Status :=
  if inFlight s then (s, .busy)
  else
    match ProfileRecord.ofImage (profileOfIndex i) image with
    | none => (s, .badValue)
    | some r =>
      let s := { s with profiles := { s.profiles with records := s.profiles.records.set i r } }
      (if profileOfIndex i = s.profiles.applied then dormancyIfDue s else s, .ok)

/-- WRITE_ENTRY on TRANSITION from its second check on (R121). -/
def writeTransition (i : Fin 6) (image : List Byte) (s : State) : State × Status :=
  if inFlight s then (s, .busy)
  else
    match TransitionRecord.ofImage i image with
    | none => (s, .badValue)
    | some r => ({ s with profiles := { s.profiles with transitions := s.profiles.transitions.set i r } }, .ok)

/-! ## DESCRIPTOR, LISTHEAD, PATTERN -/

/-- WRITE_ENTRY on DESCRIPTOR from its second check on (R144). -/
def writeDescriptor (i : Fin 16) (image : List Byte) (s : State) : State × Status :=
  if inFlight s then (s, .busy)
  else
    match Descriptor.ofImage image with
    | none => (s, .badValue)
    | some d =>
      ({ s with retention := { s.retention with descriptors := s.retention.descriptors.set i (some d) } }, .ok)

/-- DELETE_ENTRY on DESCRIPTOR from its second check on (R144). -/
def deleteDescriptor (i : Fin 16) (s : State) : State × Status :=
  if inFlight s then (s, .busy)
  else ({ s with retention := { s.retention with descriptors := s.retention.descriptors.set i none } }, .ok)

/-- WRITE_ENTRY on LISTHEAD from its second check on (R144). -/
def writeHead (i : Fin 4) (image : List Byte) (s : State) : State × Status :=
  if inFlight s then (s, .busy)
  else
    match absentOr 16 (image.headD 0) with
    | none => (s, .badValue)
    | some d => ({ s with retention := { s.retention with heads := s.retention.heads.set i d } }, .ok)

/-- WRITE_ENTRY on PATTERN from its second check on (R171). -/
def writePattern (i : Fin 16) (image : List Byte) (s : State) : State × Status :=
  if checkBusy s then (s, .busy)
  else ({ s with check := { s.check with custom := s.check.custom.set i (image.headD 0) } }, .ok)

/-! ## Commands -/

/-- WRITE_ENTRY_CHANNEL (R4 to R7). -/
def execWriteEntryChannel (rq : Request) (s : State) : Result :=
  onHead (.writeEntryChannel rq) rq (writeEntry rq 128 (imageLength 1) writeChannel) s

/-- DELETE_ENTRY_CHANNEL (R8). -/
def execDeleteEntryChannel (rq : Request) (s : State) : Result :=
  onHead (.deleteEntryChannel rq) rq (deleteEntry rq 128 deleteChannel) s

/-- READ_ENTRY_CHANNEL (R9). -/
def execReadEntryChannel (rq : Request) (s : State) : Result :=
  onHead (.readEntryChannel rq) rq
    (fun s => readEntry rq 128 (imageLength 1) (fun i => s.table[i].map Entry.image) s) s

/-- WRITE_ENTRY_PROFILE (R119). -/
def execWriteEntryProfile (rq : Request) (s : State) : Result :=
  onHead (.writeEntryProfile rq) rq (writeEntry rq 3 (imageLength 2) writeProfile) s

/-- READ_ENTRY_PROFILE (R119). -/
def execReadEntryProfile (rq : Request) (s : State) : Result :=
  onHead (.readEntryProfile rq) rq
    (fun s => readEntry rq 3 (imageLength 2) (fun i => some s.profiles.records[i].image) s) s

/-- WRITE_ENTRY_TRANSITION (R121). -/
def execWriteEntryTransition (rq : Request) (s : State) : Result :=
  onHead (.writeEntryTransition rq) rq (writeEntry rq 6 (imageLength 3) writeTransition) s

/-- READ_ENTRY_TRANSITION (R121). -/
def execReadEntryTransition (rq : Request) (s : State) : Result :=
  onHead (.readEntryTransition rq) rq
    (fun s => readEntry rq 6 (imageLength 3) (fun i => some s.profiles.transitions[i].image) s) s

/-- WRITE_ENTRY_DESCRIPTOR (R144). -/
def execWriteEntryDescriptor (rq : Request) (s : State) : Result :=
  onHead (.writeEntryDescriptor rq) rq (writeEntry rq 16 (imageLength 4) writeDescriptor) s

/-- DELETE_ENTRY_DESCRIPTOR (R144). -/
def execDeleteEntryDescriptor (rq : Request) (s : State) : Result :=
  onHead (.deleteEntryDescriptor rq) rq (deleteEntry rq 16 deleteDescriptor) s

/-- READ_ENTRY_DESCRIPTOR (R144). -/
def execReadEntryDescriptor (rq : Request) (s : State) : Result :=
  onHead (.readEntryDescriptor rq) rq
    (fun s => readEntry rq 16 (imageLength 4) (fun i => s.retention.descriptors[i].map Descriptor.image) s) s

/-- WRITE_ENTRY_LISTHEAD (R144). -/
def execWriteEntryListhead (rq : Request) (s : State) : Result :=
  onHead (.writeEntryListhead rq) rq (writeEntry rq 4 (imageLength 5) writeHead) s

/-- READ_ENTRY_LISTHEAD (R144). -/
def execReadEntryListhead (rq : Request) (s : State) : Result :=
  onHead (.readEntryListhead rq) rq
    (fun s => readEntry rq 4 (imageLength 5) (fun i => some [byteOfAbsentOr s.retention.heads[i]]) s) s

/-- WRITE_ENTRY_PATTERN (R171). -/
def execWriteEntryPattern (rq : Request) (s : State) : Result :=
  onHead (.writeEntryPattern rq) rq (writeEntry rq 16 (imageLength 6) writePattern) s

/-- READ_ENTRY_PATTERN (R171). -/
def execReadEntryPattern (rq : Request) (s : State) : Result :=
  onHead (.readEntryPattern rq) rq
    (fun s => readEntry rq 16 (imageLength 6) (fun i => some [s.check.custom[i]]) s) s

/-- READ_ENTRY_RETENTION (R147). -/
def execReadEntryRetention (rq : Request) (s : State) : Result :=
  onHead (.readEntryRetention rq) rq
    (fun s => readEntry rq 32 (imageLength 7) (fun k => s.retention.slots[k.val]?.map Slot.image) s) s

/-- BAD_TABLE_REQUEST: a table operation that names no table, or a table that does not take it; missing bytes come
first (R32, R182, R183; log 16). -/
def execBadTableRequest (rq : Request) (s : State) : Result :=
  onHead (.badTableRequest rq) rq
    (fun s =>
      let short :=
        if rq.operation = 0x04 then (entryImage rq (imageLength rq.table)).isNone else (entryIndex rq).isNone
      reply rq (s, if short then .badValue else .badTable))
    s

end Sys2Proof.Machine
end

