-- ==== Sys2Proof/Machine/Dispatch.lean ====
section
/-! DEFINITION. The meaning of every command: one arm a constructor. -/

namespace Sys2Proof.Machine

/-- The effect of a command on everything but the queue. -/
def exec (i : Instr) (s : State) : Host.Outcome State Fault Refusal :=
  match i with
  | .powerOn pins => Sys2Proof.Machine.execPowerOn pins s
  | .rstnLow => Sys2Proof.Machine.execRstnLow s
  | .rstnHigh straps => Sys2Proof.Machine.execRstnHigh straps s
  | .trunkReceptionEnd line => Sys2Proof.Machine.execTrunkReceptionEnd line s
  | .trunkTransmitComplete => Sys2Proof.Machine.execTrunkTransmitComplete s
  | .arbiterTake => Sys2Proof.Machine.execArbiterTake s
  | .spurReceptionEnd n line => Sys2Proof.Machine.execSpurReceptionEnd n line s
  | .commandTransmitComplete n => Sys2Proof.Machine.execCommandTransmitComplete n s
  | .closeTransmitComplete n => Sys2Proof.Machine.execCloseTransmitComplete n s
  | .testTransmitComplete n => Sys2Proof.Machine.execTestTransmitComplete n s
  | .commandConflict n => Sys2Proof.Machine.execCommandConflict n s
  | .closeConflict n => Sys2Proof.Machine.execCloseConflict n s
  | .testConflict n => Sys2Proof.Machine.execTestConflict n s
  | .responseWindowExpiry n => Sys2Proof.Machine.execResponseWindowExpiry n s
  | .burstGapExpiry n => Sys2Proof.Machine.execBurstGapExpiry n s
  | .closeWindowExpiry n => Sys2Proof.Machine.execCloseWindowExpiry n s
  | .echoWindowExpiry n => Sys2Proof.Machine.execEchoWindowExpiry n s
  | .engineTakeCopy n => Sys2Proof.Machine.execEngineTakeCopy n s
  | .claimGrant n => Sys2Proof.Machine.execClaimGrant n s
  | .lineSenseChange n level => Sys2Proof.Machine.execLineSenseChange n level s
  | .settleTimerExpiry n => Sys2Proof.Machine.execSettleTimerExpiry n s
  | .spurGateChange level => Sys2Proof.Machine.execSpurGateChange level s
  | .wakePinEdge level => Sys2Proof.Machine.execWakePinEdge level s
  | .wakeCompareFire => Sys2Proof.Machine.execWakeCompareFire s
  | .timeWrap => Sys2Proof.Machine.execTimeWrap s
  | .quietThresholdExpiry => Sys2Proof.Machine.execQuietThresholdExpiry s
  | .actionThresholdExpiry => Sys2Proof.Machine.execActionThresholdExpiry s
  | .dormancyExpiry => Sys2Proof.Machine.execDormancyExpiry s
  | .drainComplete => Sys2Proof.Machine.execDrainComplete s
  | .drainLimitExpiry => Sys2Proof.Machine.execDrainLimitExpiry s
  | .saveWalkStep => Sys2Proof.Machine.execSaveWalkStep s
  | .restoreWalkStep => Sys2Proof.Machine.execRestoreWalkStep s
  | .settleWaitExpiry => Sys2Proof.Machine.execSettleWaitExpiry s
  | .holdExpiry => Sys2Proof.Machine.execHoldExpiry s
  | .readAttr rq => Sys2Proof.Machine.execReadAttr rq s
  | .writeAttr rq => Sys2Proof.Machine.execWriteAttr rq s
  | .writeStationOverride rq => Sys2Proof.Machine.execWriteStationOverride rq s
  | .clearMissCountUp rq => Sys2Proof.Machine.execClearMissCountUp rq s
  | .clearMissCountDown rq => Sys2Proof.Machine.execClearMissCountDown rq s
  | .writeHoldMaxAge rq => Sys2Proof.Machine.execWriteHoldMaxAge rq s
  | .clearHoldDiscards rq => Sys2Proof.Machine.execClearHoldDiscards rq s
  | .writeRecordEnable rq => Sys2Proof.Machine.execWriteRecordEnable rq s
  | .writeWakeCompareHigh rq => Sys2Proof.Machine.execWriteWakeCompareHigh rq s
  | .writeWakeCompareLow rq => Sys2Proof.Machine.execWriteWakeCompareLow rq s
  | .writeGatePolarity rq => Sys2Proof.Machine.execWriteGatePolarity rq s
  | .writeForce rq => Sys2Proof.Machine.execWriteForce rq s
  | .writeFollow rq => Sys2Proof.Machine.execWriteFollow rq s
  | .writeSettle rq => Sys2Proof.Machine.execWriteSettle rq s
  | .writeEarlyLeave rq => Sys2Proof.Machine.execWriteEarlyLeave rq s
  | .clearSpurLost rq => Sys2Proof.Machine.execClearSpurLost rq s
  | .writeWatchEnable rq => Sys2Proof.Machine.execWriteWatchEnable rq s
  | .writeWatchMode rq => Sys2Proof.Machine.execWriteWatchMode rq s
  | .writeQuietThreshold rq => Sys2Proof.Machine.execWriteQuietThreshold rq s
  | .writeActionThreshold rq => Sys2Proof.Machine.execWriteActionThreshold rq s
  | .writeEntryChannel rq => Sys2Proof.Machine.execWriteEntryChannel rq s
  | .deleteEntryChannel rq => Sys2Proof.Machine.execDeleteEntryChannel rq s
  | .readEntryChannel rq => Sys2Proof.Machine.execReadEntryChannel rq s
  | .writeEntryProfile rq => Sys2Proof.Machine.execWriteEntryProfile rq s
  | .readEntryProfile rq => Sys2Proof.Machine.execReadEntryProfile rq s
  | .writeEntryTransition rq => Sys2Proof.Machine.execWriteEntryTransition rq s
  | .readEntryTransition rq => Sys2Proof.Machine.execReadEntryTransition rq s
  | .writeEntryDescriptor rq => Sys2Proof.Machine.execWriteEntryDescriptor rq s
  | .deleteEntryDescriptor rq => Sys2Proof.Machine.execDeleteEntryDescriptor rq s
  | .readEntryDescriptor rq => Sys2Proof.Machine.execReadEntryDescriptor rq s
  | .writeEntryListhead rq => Sys2Proof.Machine.execWriteEntryListhead rq s
  | .readEntryListhead rq => Sys2Proof.Machine.execReadEntryListhead rq s
  | .writeEntryPattern rq => Sys2Proof.Machine.execWriteEntryPattern rq s
  | .readEntryPattern rq => Sys2Proof.Machine.execReadEntryPattern rq s
  | .readEntryRetention rq => Sys2Proof.Machine.execReadEntryRetention rq s
  | .readContext rq => Sys2Proof.Machine.execReadContext rq s
  | .clearContext rq => Sys2Proof.Machine.execClearContext rq s
  | .setProfile rq => Sys2Proof.Machine.execSetProfile rq s
  | .mark rq => Sys2Proof.Machine.execMark rq s
  | .clearEvents rq => Sys2Proof.Machine.execClearEvents rq s
  | .clearSpurErrors rq => Sys2Proof.Machine.execClearSpurErrors rq s
  | .resumeSpur rq => Sys2Proof.Machine.execResumeSpur rq s
  | .checkStart rq => Sys2Proof.Machine.execCheckStart rq s
  | .checkStop rq => Sys2Proof.Machine.execCheckStop rq s
  | .restart rq => Sys2Proof.Machine.execRestart rq s
  | .unknownOp rq => Sys2Proof.Machine.execUnknownOp rq s
  | .badTableRequest rq => Sys2Proof.Machine.execBadTableRequest rq s
end Sys2Proof.Machine
end

