-- ==== Sys2Proof/Machine/Idle.lean ====
section
/-! DEFINITION. What the part does by itself while no command waits: a step of its own that is due, or one millisecond
of field time (log 3 to 5). -/

namespace Sys2Proof.Machine

/-- One command where a condition holds. -/
def dueIf (condition : Bool) (c : Instr) : List Instr := if condition then [c] else []

/-- The steps of one spur's port and engine that are due. -/
def dueOnSpur (s : State) (n : SpurId) : List Instr :=
  dueIf (claimDue n s) (.claimGrant n)
    ++ dueIf (nextCopy s.spurs[n]).isSome (.engineTakeCopy n)
    ++ dueIf (settleDue n s) (.settleTimerExpiry n)
    ++ dueIf (engineTimerDue n .awaitingResponse .responseWindow s) (.responseWindowExpiry n)
    ++ dueIf (engineTimerDue n .inBurst .burstGap s) (.burstGapExpiry n)
    ++ dueIf (engineTimerDue n .awaitingCloseAck .closeWindow s) (.closeWindowExpiry n)
    ++ dueIf (engineTimerDue n .checking .responseWindow s) (.echoWindowExpiry n)

/-- The execution of the head request, where the response queue has room (R181). -/
def dueRequest (s : State) : List Instr :=
  match s.agent.requests with
  | [] => []
  | rq :: _ => dueIf (decide (s.arbiter.responses.length < Config.responseCapacity)) (Instr.ofRequest rq)

/-- The steps that are due now, none while the part is held in reset. -/
def due (s : State) : List Instr :=
  if s.held then []
  else
    dueIf (s.trunk.tx.isNone && trunkWaiting s) .arbiterTake
      ++ allSpurs.flatMap (dueOnSpur s)
      ++ dueRequest s
      ++ dueIf (drainCompleteDue s) .drainComplete
      ++ dueIf (drainLimitDue s) .drainLimitExpiry
      ++ dueIf (settleWaitDue s) .settleWaitExpiry
      ++ dueIf (compareDue s) .wakeCompareFire
      ++ dueIf (quietDue s) .quietThresholdExpiry
      ++ dueIf (actionDue s) .actionThresholdExpiry
      ++ dueIf (dormancyDue s) .dormancyExpiry
      ++ dueIf (holdDue s) .holdExpiry

/-- The next free value is used up. -/
def useFree (s : State) : State := { s with freeCount := s.freeCount + 1 }

/-- The step of the running walk, if one runs (R149, R154). -/
def walkStep (s : State) : Option Instr :=
  match s.held, phase s with
  | false, some .save => some .saveWalkStep
  | false, some .restore => some .restoreWalkStep
  | _, _ => none

/-- A running walk takes a step, or not yet: how long a step takes is not bounded (R149; log 5). A step that falls at a
millisecond is taken as that millisecond begins, before the steps that come due in it, where R131 lets either come
first: the model's choice (log 33). -/
def maybeWalk (s : State) : Result :=
  match walkStep s with
  | none => .next s
  | some c => if Config.freeWalk s.freeCount then exec c (useFree s) else .next (useFree s)

/-- One millisecond of field time (R158). A running walk may take a step in every millisecond, in the one that wraps
field time after TIME_WRAP: R149, R154 and R158 leave that open, and it is the model's choice (log 5, 33). -/
def tick (s : State) : Result := maybeWalk (passMillisecond s)

/-- The step taken while no command waits: the one that is due; of several, the one that the free value picks; with
none, a millisecond passes (log 3, 4). -/
def idle (s : State) : Result :=
  match due s with
  | [] => tick s
  | [c] => exec c s
  | c :: d :: rest => exec ((c :: d :: rest).getD (Config.freeOrder s.freeCount % (rest.length + 2)) c) (useFree s)

end Sys2Proof.Machine
end

