-- ==== Sys2Proof/Safety.lean ====
section
/-! DEFINITION. The laws of the part: what the manual says always holds of its state, each as a property of one state.
`Lawful` gathers them; that a step keeps them is stated in the certificates. -/

namespace Sys2Proof.Machine

/-- No queue holds more than its places (R59, R75, R80, R81, R146, R180). -/
abbrev CapacityLaw (s : State) : Prop :=
  s.hold.records.length ≤ 64
    ∧ (∀ n : SpurId, s.spurs[n].queue.length ≤ 8)
    ∧ (∀ q : Fin 4, s.arbiter.classQueues[q].length ≤ 16)
    ∧ s.arbiter.responses.length ≤ 4
    ∧ s.agent.requests.length ≤ 4
    ∧ s.retention.slots.length ≤ 32

/-- Every event set in the event status is record-enabled (R188). -/
abbrev EventLaw (s : State) : Prop := s.agent.status &&& ~~~s.agent.record = 0

/-- Whether two positions hold entries with the same channel and direction. -/
def sameKey (x y : Option Entry) : Bool :=
  match x, y with
  | some e, some f => decide (e.channel = f.channel) && decide (e.direction = f.direction)
  | _, _ => false

/-- The ranges of an entry's fields, and what a DOWN or an UP entry must not have (R2, R5). -/
def Entry.inRange (e : Entry) : Bool :=
  decide (e.channel ≠ 0) && decide (e.spurs ≠ 0)
    && (decide (e.direction = .up) || decide (e.cls = 0))
    && (decide (e.direction = .down) || (!e.expectsResponse && !e.autoClose))
    && e.policer.all fun p => decide (1 ≤ p.depth ∧ p.depth ≤ 63 ∧ 1 ≤ p.period ∧ p.period ≤ 4095)

/-- No two valid positions hold the same channel and direction, and every entry is in range (R3, R5). -/
abbrev TableLaw (s : State) : Prop :=
  (∀ i j : Position, sameKey s.table[i] s.table[j] = true → i = j)
    ∧ (∀ i : Position, s.table[i].all Entry.inRange = true)

/-- The profiles of a transition in flight by its phase (R117, R129, R136, R137). -/
def Transition.lawful (applied admission : Profile) (t : Transition) : Bool :=
  decide (t.source ≠ t.target)
    && match t.phase with
      | .drain => decide (applied = t.source) && decide (admission = t.source)
      | .save => decide (applied = t.source) && decide (admission = .night) && decide (t.target = .night)
      | .restore => decide (applied = t.target) && decide (admission = t.target) && decide (t.source = .night)
      | .settle => decide (applied = t.target) && decide (admission = t.target)

/-- With no transition in flight the two profiles are equal and no request is pending; with one, a pending request
ranks above its target (R117). -/
def ProfileController.lawful (p : ProfileController) : Bool :=
  match p.transition with
  | none => decide (p.admission = p.applied) && p.request.isNone
  | some t =>
    t.lawful p.applied p.admission && p.request.all fun q => decide (t.target.code < q.target.code)

/-- The profile state is as R117 says, and the Context Store is powered in DAY and DUSK only (R40). -/
abbrev ProfileLaw (s : State) : Prop :=
  s.profiles.lawful = true ∧ (s.admission.store.isSome = true ↔ s.profiles.applied ≠ .night)

/-- An engine timer of a kind. -/
def timerIs (kind : TimerKind) (t : Option EngineTimer) : Bool := t.any fun t => decide (t.kind = kind)

/-- What an engine record holds in each state, and when the spur's receiver is in OWN (R36, R94); an IDLE engine has
granted every claim (R95, R174). -/
def Engine.lawful (rx : Receiver) (e : Engine) : Bool :=
  match e.state with
  | .off =>
    decide (rx ≠ .own) && e.outstanding.isNone && e.burst.isNone && e.timer.isNone && !e.claimWaiting
  | .idle =>
    decide (rx ≠ .own) && e.outstanding.isNone && e.burst.isNone && e.timer.isNone && !e.claimWaiting
  | .sending => decide (rx = .own) && e.outstanding.isSome && e.timer.isNone
  | .awaitingResponse =>
    decide (rx ≠ .own) && e.outstanding.isSome && timerIs .responseWindow e.timer
  | .inBurst =>
    decide (rx ≠ .own) && e.outstanding.isNone && e.burst.isSome && timerIs .burstGap e.timer
  | .closing => decide (rx = .own) && e.outstanding.isSome && e.burst.isSome && e.timer.isNone
  | .awaitingCloseAck =>
    decide (rx ≠ .own) && e.outstanding.isSome && e.burst.isSome && timerIs .closeWindow e.timer
  | .stalled => decide (rx ≠ .own) && e.outstanding.isNone && e.burst.isNone && e.timer.isNone
  | .checking =>
    e.outstanding.isSome && e.burst.isNone
      && ((decide (rx = .own) && e.timer.isNone)
        || (decide (rx ≠ .own) && timerIs .responseWindow e.timer))

/-- A Spur Port by itself: undriven it is ABSENT and ignores the line, its engine is OFF exactly when it is not
engine-present, and its settle timer runs exactly in ARRIVING and LEAVING (R36, R89, R91, R93, R94). -/
def Spur.lawful (sp : Spur) : Bool :=
  (sp.drive || (decide (sp.presence = .absent) && decide (sp.rx = .waiting)))
    && decide (decide (sp.engine.state = .off) = !sp.enginePresent)
    && decide
      (sp.settleTimer.isSome = (decide (sp.presence = .arriving) || decide (sp.presence = .leaving)))
    && sp.engine.lawful sp.rx

/-- Every Spur Port is lawful; an engine is CHECKING exactly when it is the target of the RUNNING check, and has a
claim waiting exactly when it is the target of the WAITING one (R94, R174). -/
abbrev SpurLaw (s : State) : Prop :=
  ∀ n : SpurId,
    s.spurs[n].lawful = true
      ∧ (s.spurs[n].engine.state = .checking ↔ s.check.outcome = .running ∧ s.check.target = n)
      ∧ (s.spurs[n].engine.claimWaiting = true ↔ s.check.outcome = .waiting ∧ s.check.target = n)

/-- No two valid slots name one position, a valid slot's context is LIVE, and slots are valid only in NIGHT and during
SAVE and RESTORE (R146, R149, R152, R156). -/
abbrev DirectoryLaw (s : State) : Prop :=
  (s.retention.slots.map Slot.index).Nodup
    ∧ (s.retention.slots.all fun x => x.context.live) = true
    ∧ (s.retention.slots = [] ∨ s.profiles.applied = .night ∨ phase s = some .save ∨ phase s = some .restore)

/-- Whether a held frame belongs to an entry of its direction, and came from the trunk exactly when that is DOWN. -/
def HeldFrame.lawful (table : Vector (Option Entry) 128) (r : HeldFrame) : Bool :=
  (table[r.index].any fun e => decide (e.direction = r.direction))
    && decide (decide (r.port = .trunk) = decide (r.direction = .down))

/-- Every held frame belongs to a valid channel entry (R59). -/
abbrev HoldLaw (s : State) : Prop := s.hold.records.all (HeldFrame.lawful s.table) = true

/-- The tokens of a context never exceed its entry's policer depth; a slot's, while it is not superseded (R48). -/
abbrev TokenLaw (s : State) : Prop :=
  (∀ i : Position,
      (s.admission.store.all fun v => decide (v[i].tokens ≤ depthOf s.table[i])) = true)
    ∧ (s.retention.slots.all fun x =>
        x.superseded || decide (x.context.tokens ≤ depthOf s.table[x.index])) = true

/-- The silence watch holds no episode exactly while it is disabled (R165). -/
abbrev WatchLaw (s : State) : Prop := s.watch.stage = .off ↔ s.watch.enabled = false

/-- The ranges of a spur's settings (R92, R111). -/
def Spur.inRange (sp : Spur) : Bool :=
  decide (sp.settle = 0 ∨ sp.settle = 4 ∨ sp.settle = 16 ∨ sp.settle = 64)
    && decide (1 ≤ sp.responseWindow ∧ sp.responseWindow ≤ 255)
    && decide (1 ≤ sp.closeWindow ∧ sp.closeWindow ≤ 255)
    && decide (1 ≤ sp.burstGap ∧ sp.burstGap ≤ 1023)

/-- The ranges of a Profile Table record (R118). -/
def ProfileRecord.inRange (p : Profile) (r : ProfileRecord) : Bool :=
  decide (r.timeout ≤ 65535)
    && if p = .night then decide (r.timeout = 0 ∧ r.target = .night) else decide (r.target.code < p.code)

/-- The ranges of a Transition Table record (R120, R121). -/
def TransitionRecord.inRange (i : Fin 6) (r : TransitionRecord) : Bool :=
  decide (r.drainLimit ≤ 65535) && decide (r.settleWait ≤ 1023)
    && (r.saveList.isNone || decide (transitionTarget i = .night))
    && (!r.restore || decide (transitionSource i = .night))

/-- Every setting is in its range (R62, R64, R92, R111, R118, R120, R123, R142, R165, R170, R186). -/
abbrev SettingsLaw (s : State) : Prop :=
  (∀ n : SpurId, s.spurs[n].inRange = true)
    ∧ (∀ m : Fin 4, 1 ≤ s.hold.marks[m] ∧ s.hold.marks[m] ≤ 64)
    ∧ s.hold.maxAge ≤ 65535
    ∧ (∀ i : Fin 3, (s.profiles.records[i].inRange (profileOfIndex i)) = true)
    ∧ (∀ i : Fin 6, (s.profiles.transitions[i].inRange i) = true)
    ∧ s.profiles.wakeTarget ≠ .night
    ∧ (∀ i : Fin 16, (s.retention.descriptors[i].all fun d => decide (1 ≤ d.count ∧ d.count ≤ 128)) = true)
    ∧ (1 ≤ s.watch.quietThreshold ∧ s.watch.quietThreshold ≤ 65535)
    ∧ (1 ≤ s.watch.actionThreshold ∧ s.watch.actionThreshold ≤ 65535)
    ∧ s.check.length ≤ 240
    ∧ (1 ≤ s.check.count ∧ s.check.count ≤ 65535)
    ∧ s.agent.spurSelect ≠ 0
    ∧ s.agent.overrideAddress ≠ 0xFF

/-- A part held in reset by RSTN does nothing: no work is in hand, no spur is driven, no engine is on (R193). -/
abbrev HeldLaw (s : State) : Prop :=
  s.held = true →
    s.trunk.tx = none
      ∧ s.trunk.rx = .waiting
      ∧ s.arbiter.responses = []
      ∧ s.arbiter.notice = false
      ∧ (∀ q : Fin 4, s.arbiter.classQueues[q] = [])
      ∧ s.hold.records = []
      ∧ s.agent.requests = []
      ∧ s.profiles.transition = none
      ∧ (∀ n : SpurId, s.spurs[n].drive = false ∧ s.spurs[n].engine.state = .off ∧ s.spurs[n].queue = [])

/-- Every law of the part. -/
structure Lawful (s : State) : Prop where
  capacity : CapacityLaw s
  event : EventLaw s
  table : TableLaw s
  profile : ProfileLaw s
  spur : SpurLaw s
  directory : DirectoryLaw s
  hold : HoldLaw s
  token : TokenLaw s
  watch : WatchLaw s
  settings : SettingsLaw s
  held : HeldLaw s

/-- The conditions under which a management command is the execution now due: the part is not held, the request is the
head of the queue and spells the command, and a response has room (R181). -/
abbrev Executes (c : Instr) (rq : Request) (s : State) : Prop :=
  s.held = false ∧ s.agent.requests.head? = some rq ∧ Instr.ofRequest rq = c ∧ s.arbiter.responses.length < 4

/-- A state whose head request has left the request queue, with a response appended to the response queue: what an
execution that leaves s otherwise comes to (R31, R33, R81, R181). -/
abbrev responded (rq : Request) (status : Status) (result : List Byte) (s : State) : State :=
  { s with
    agent := { s.agent with requests := s.agent.requests.tail }
    arbiter :=
      { s.arbiter with
        responses :=
          s.arbiter.responses ++ [⟨rq.source, station s, rq.operation :: rq.tag :: (status.bytes ++ result)⟩] } }

end Sys2Proof.Machine
end

