-- ==== Sys2Proof/Certificates/Slice0/Obligations.lean ====
section
/-! DEFINITION. The statements for the provers, from the manual's numbered rules: steps and resets, the trunk, admission
and the Hold Queue, the spur lines, field time, the profiles and their walks, management, and the laws that every step
keeps. Log entries named in a docstring are notes/assumptions/<n>.md: what a statement takes from them is the model's
choice. -/

open Sys2Proof Sys2Proof.Machine

/-! ## Steps -/

/-- A step takes the command at the front of the queue and answers what `exec` answers with the queue's rest. -/
def Obligations.StepTakesFront : Prop :=
  ∀ (c : Instr) (rest : List Instr) (s : State),
    s.pending = c :: rest → step s = exec c { s with pending := rest }

/-- A closing spur is drained when its queue is empty and its engine is IDLE, STALLED or OFF (R134). -/
abbrev Sys2Proof.Rules.Drained (sp : Spur) : Prop :=
  sp.queue = [] ∧ (sp.engine.state = .idle ∨ sp.engine.state = .stalled ∨ sp.engine.state = .off)

/-- An engine in a state has a timer of a kind that has run its length (R94, R159). -/
def Sys2Proof.Rules.TimerRun (state : EngineState) (kind : TimerKind) (n : SpurId) (s : State) : Prop :=
  s.spurs[n].engine.state = state
    ∧ ∃ (start : Time) (length : Nat),
        s.spurs[n].engine.timer = some ⟨kind, start, length⟩ ∧ length ≤ elapsed start s.clock.now

/-- A transition is in flight in a phase whose timer has run a length of the transition's record (R135, R139). -/
def Sys2Proof.Rules.PhaseRun (phase : Phase) (length : TransitionRecord → Nat) (s : State) : Prop :=
  ∃ (x : Transition) (start : Time),
    s.profiles.transition = some x ∧ x.phase = phase ∧ x.timer = some start
      ∧ length (transitionRecord x.source x.target s) ≤ elapsed start s.clock.now

/-- When a command is a step of the part's own that is due, each by the rule that has it happen. The step of a walk is
none of them (log 5). -/
def Sys2Proof.Rules.IsDue (s : State) : Instr → Prop
  | .arbiterTake =>
    s.trunk.tx = none
      ∧ (s.arbiter.responses ≠ [] ∨ s.arbiter.notice = true ∨ ∃ q : Fin 4, s.arbiter.classQueues[q] ≠ [])
  | .claimGrant n => s.spurs[n].engine.state = .idle ∧ s.spurs[n].engine.claimWaiting = true
  | .engineTakeCopy n =>
    s.spurs[n].engine.state = .idle ∧ s.spurs[n].engine.claimWaiting = false ∧ s.spurs[n].queue ≠ []
      ∨ s.spurs[n].engine.state = .inBurst ∧ ∃ b : Burst, s.spurs[n].engine.burst = some b
          ∧ ∃ c ∈ s.spurs[n].queue, c.frame.channel = b.channel ∧ c.frame.destination = b.station
  | .settleTimerExpiry n =>
    ∃ start : Time,
      s.spurs[n].settleTimer = some start ∧ s.spurs[n].settle ≤ elapsed start s.clock.now
  | .responseWindowExpiry n => Rules.TimerRun .awaitingResponse .responseWindow n s
  | .burstGapExpiry n => Rules.TimerRun .inBurst .burstGap n s
  | .closeWindowExpiry n => Rules.TimerRun .awaitingCloseAck .closeWindow n s
  | .echoWindowExpiry n => Rules.TimerRun .checking .responseWindow n s
  | .drainComplete =>
    ∃ x : Transition, s.profiles.transition = some x ∧ x.phase = .drain
      ∧ ∀ n : SpurId, inSet n x.closing = true → Rules.Drained s.spurs[n]
  | .drainLimitExpiry => Rules.PhaseRun .drain TransitionRecord.drainLimit s
  | .settleWaitExpiry => Rules.PhaseRun .settle TransitionRecord.settleWait s
  | .wakeCompareFire => s.clock.compareArmed = true ∧ s.clock.compareTarget.toNat ≤ s.clock.now.toNat
  | .quietThresholdExpiry =>
    s.watch.stage = .counting ∧ s.watch.quietThreshold ≤ elapsed s.watch.episodeStart s.clock.now
  | .actionThresholdExpiry =>
    s.watch.direct = false ∧ s.watch.stage = .quiet
      ∧ s.watch.actionThreshold ≤ elapsed s.watch.quietTime s.clock.now
  | .dormancyExpiry =>
    let r := profileRecord s.profiles.applied s
    s.profiles.transition = none ∧ r.timeout ≠ 0
      ∧ ∃ start : Time, s.profiles.dormancy = some start ∧ r.timeout ≤ elapsed start s.clock.now
  | .holdExpiry =>
    s.hold.maxAge ≠ 0
      ∧ ∃ r : HeldFrame, s.hold.records.head? = some r ∧ s.hold.maxAge ≤ elapsed r.arrival s.clock.now
  | c => ∃ rq : Request, Executes c rq s

/-- Which steps of the part's own are due, none while the part is held in reset: the Arbiter's take, with the
transmitter free and something to send; a claim that waits at an IDLE engine, and a copy that an engine can take; a
settle timer, a response, gap, close or echo window that has run; the execution of the head request where a response
has room; DRAIN drained or at its limit, and the settle wait; the wake compare, the watch's two thresholds, the
dormancy timer and the age of the oldest held frame (R64, R83, R91, R95, R96, R100, R103, R105, R109,
R132, R134, R135, R139, R163, R167, R174, R181, R193). -/
def Sys2Proof.Rules.StepsDue : Prop := ∀ (c : Instr) (s : State), c ∈ due s ↔ s.held = false ∧ Rules.IsDue s c

/-- With no command waiting, the step of the part's own that alone is due is taken; of several, one, using up a free
value. With none due one millisecond passes, with TIME_WRAP where the count passes its last value to 0; a running walk
then takes a step or not, using up a free value. What a step does with no command waiting, and which due step is first,
is the model's choice (log 3, 4), and so is when a walk takes its step and that it comes after TIME_WRAP (R149, R154,
R158; log 5, 33). -/
def Sys2Proof.Rules.EmptyQueueSteps : Prop :=
  ∀ s : State, s.pending = [] →
    let freed := fun t : State => { t with freeCount := t.freeCount + 1 }
    let counted := { s with clock := { s.clock with now := s.clock.now + 1 } }
    let passed := if s.clock.now = 0xFFFFFFFFFF ∧ s.held = false then raise .timeWrap counted else counted
    let walks := fun c : Instr => step s = exec c (freed passed) ∨ step s = .next (freed passed)
    (∀ c : Instr, due s = [c] → step s = exec c s)
      ∧ (2 ≤ (due s).length → ∃ c ∈ due s, step s = exec c (freed s))
      ∧ (due s = [] →
        (s.held = true ∨ phase s ≠ some .save ∧ phase s ≠ some .restore → step s = .next passed)
          ∧ (s.held = false → phase s = some .save → walks .saveWalkStep)
          ∧ (s.held = false → phase s = some .restore → walks .restoreWalkStep))

/-- Which steps of the part's own are due, and what a step does while no command waits. -/
def Obligations.EmptyQueueTakesDueStepOrTicks : Prop :=
  Rules.StepsDue ∧ Rules.EmptyQueueSteps

/-- Every command answers a next state in every state, and so does every step: nothing in the manual stops the part.
That a command whose condition does not hold changes nothing is the model's choice (log 2), and so is what a step does
with no command waiting (log 3, 4). -/
def Sys2Proof.Rules.NothingStops : Prop :=
  (∀ (c : Instr) (s : State), ∃ t, exec c s = .next t) ∧ ∀ s : State, ∃ t, step s = .next t

/-! ## Resets -/

/-- POWER_ON brings every block to its power-on value, whatever the state before: the trunk, the tables, the contexts,
the queues, the spurs, the profiles, retention, field time, the silence watch and the line check with their settings,
and the Management Agent (R18, R39, R74, R79, R87, R116, R117, R157, R165, R169 to R171, R194). The levels at the pins
are the operand (log 8); the watch's times and the check's running state have no power-on value of the manual's and
are zero (log 11). -/
def Sys2Proof.Rules.PowerOnValues : Prop :=
  ∀ (pins : Pins) (s : State), ∃ t, exec (.powerOn pins) s = .next t
    ∧ t.pins = pins ∧ t.held = false
    ∧ t.trunk = ⟨.waiting, none, 0, ⟨0, 0, 0, 0, 0⟩⟩
    ∧ t.table = Vector.replicate 128 none
    ∧ t.admission = ⟨some (Vector.replicate 128 Context.blank), false, false, 0, 0⟩
    ∧ t.hold = ⟨[], #v[16, 32, 48, 60], 0, 0⟩
    ∧ t.arbiter = ⟨Vector.replicate 4 [], [], true⟩
    ∧ t.spurLines = ⟨0x3F, false⟩
    ∧ (∀ n : SpurId,
        t.spurs[n] =
          { Spur.blank with
            drive := true
            presence := if inSet n pins.sense then .arriving else .absent
            settleTimer := if inSet n pins.sense then some 0 else none })
    ∧ t.profiles.applied = (if pins.strapPins.start then .dusk else .day)
    ∧ t.profiles.admission = t.profiles.applied
    ∧ t.profiles.transition = none ∧ t.profiles.request = none ∧ t.profiles.lastRefusal = none
    ∧ t.profiles.dormancy = some 0 ∧ t.profiles.wakeTarget = .day
    ∧ t.profiles.records = #v[⟨0, 0, .night⟩, ⟨0x3F, 0, .night⟩, ⟨0x3F, 0, .dusk⟩]
    ∧ t.profiles.transitions = Vector.replicate 6 ⟨true, none, false, 1000, 100, false, none⟩
    ∧ t.retention.descriptors = Vector.replicate 16 none ∧ t.retention.heads = Vector.replicate 4 none
    ∧ t.retention.slots = [] ∧ t.retention.saveLost = 0 ∧ t.retention.skipCount = 0
    ∧ t.clock = ⟨0, ⟨0, .none⟩, ⟨0, .none⟩, 0, false, false⟩
    ∧ t.watch = ⟨false, false, 30000, 30000, .none, .dusk, .off, 0, 0⟩
    ∧ t.check = ⟨0, 0x00, .alternate, 16, 100, 0, 0, 0, .none, 0, 0, none, Vector.replicate 16 0⟩
    ∧ t.agent = ⟨[], false, 1, 1, 0x7FFFFFFF, 1, 0, false, pins.strapPins⟩

/-- The state after reset is what POWER_ON leaves with every pin low (the pins' levels: log 9). -/
def Sys2Proof.Rules.ResetIsPowerOnLow : Prop := exec (.powerOn Pins.low) State.reset = .next State.reset

/-- POWER_ON gives every block its power-on value, and the state after reset is what it leaves with every pin low. -/
def Obligations.PowerOnValues : Prop :=
  Rules.PowerOnValues ∧ Rules.ResetIsPowerOnLow

/-- What a warm reset clears and what it keeps; an enabled silence watch starts an episode at the time of the reset;
each spur keeps its settings, its engine is OFF with no record, and its drive and presence are then evaluated afresh, a
SETTLE of 0 passing on to PRESENT and IDLE (R18, R29, R74, R79, R87, R91, R116, R117, R141, R157, R162, R166, R169,
R170, R194). -/
def Sys2Proof.Rules.WarmResetKeepsAndClears : Prop :=
  ∀ s : State,
    let t := warmReset s
    (t.table = s.table ∧ t.admission.forwardUp = s.admission.forwardUp
        ∧ t.admission.floodDown = s.admission.floodDown
        ∧ t.hold.marks = s.hold.marks ∧ t.hold.maxAge = s.hold.maxAge
        ∧ t.spurLines.gateInverted = s.spurLines.gateInverted
        ∧ t.profiles.records = s.profiles.records ∧ t.profiles.transitions = s.profiles.transitions
        ∧ t.profiles.lastRefusal = s.profiles.lastRefusal ∧ t.profiles.wakeTarget = s.profiles.wakeTarget
        ∧ t.retention.descriptors = s.retention.descriptors ∧ t.retention.heads = s.retention.heads
        ∧ t.clock.now = s.clock.now ∧ t.clock.compareTarget = s.clock.compareTarget
        ∧ t.clock.wakeActiveLow = s.clock.wakeActiveLow
        ∧ t.watch.enabled = s.watch.enabled ∧ t.watch.direct = s.watch.direct
        ∧ t.watch.quietThreshold = s.watch.quietThreshold
        ∧ t.watch.actionThreshold = s.watch.actionThreshold ∧ t.watch.action = s.watch.action
        ∧ t.watch.fallback = s.watch.fallback
        ∧ t.check.target = s.check.target ∧ t.check.station = s.check.station
        ∧ t.check.pattern = s.check.pattern ∧ t.check.length = s.check.length
        ∧ t.check.count = s.check.count ∧ t.check.custom = s.check.custom
        ∧ t.agent.record = s.agent.record ∧ t.agent.notify = s.agent.notify
        ∧ t.agent.overrideAddress = s.agent.overrideAddress
        ∧ t.agent.overrideEnabled = s.agent.overrideEnabled
        ∧ t.pins = s.pins ∧ t.pending = s.pending)
      ∧ (t.held = false ∧ t.trunk = ⟨.waiting, none, 0, ⟨0, 0, 0, 0, 0⟩⟩
        ∧ t.admission.missUp = 0 ∧ t.admission.missDown = 0
        ∧ t.admission.store = some (Vector.ofFn fun i : Position => freshContext s.table[i] s.clock.now)
        ∧ t.hold.records = [] ∧ t.hold.discards = 0
        ∧ t.arbiter.classQueues = Vector.replicate 4 [] ∧ t.arbiter.responses = []
        ∧ t.profiles.applied = startProfile s.pins.strapPins
        ∧ t.profiles.admission = startProfile s.pins.strapPins
        ∧ t.profiles.transition = none ∧ t.profiles.request = none
        ∧ t.profiles.dormancy = some s.clock.now
        ∧ t.spurLines.driveMask = (profileRecord (startProfile s.pins.strapPins) s).driveMask
        ∧ t.retention.slots = [] ∧ t.retention.saveLost = 0 ∧ t.retention.skipCount = 0
        ∧ t.clock.compareArmed = false ∧ t.clock.current = ⟨s.clock.now, .warmReset⟩
        ∧ t.clock.previous = s.clock.current
        ∧ t.watch.stage = (if s.watch.enabled then .counting else .off)
        ∧ (s.watch.enabled = true → t.watch.episodeStart = s.clock.now)
        ∧ t.check.outcome = .none ∧ t.check.sent = 0 ∧ t.check.mismatched = 0 ∧ t.check.missing = 0
        ∧ t.agent.requests = [] ∧ t.agent.restartDue = false ∧ t.agent.spurSelect = 1
        ∧ t.agent.straps = s.pins.strapPins
        ∧ t.agent.status.getLsbD 0 = s.agent.record.getLsbD 0)
      ∧ ∀ n : SpurId,
          let lineLive := computedDrive n t && inSet n s.pins.sense
          let atOnce := lineLive && decide (s.spurs[n].settle = 0)
          t.spurs[n] =
            { s.spurs[n] with
              drive := computedDrive n t
              presence := if atOnce then .present else if lineLive then .arriving else .absent
              settleTimer := if lineLive && !atOnce then some s.clock.now else none
              rx := .waiting, queue := [], lost := 0, errors := 0
              engine := ⟨if atOnce then .idle else .off, none, none, none, false⟩ }

/-- After a warm reset RESTARTED is recorded if record-enabled and requests a notice if notify-enabled too; with every
SETTLE above 0 the event status shows RESTARTED alone and nothing else requests a notice (R87, R194; a SETTLE of 0:
log 35). -/
def Sys2Proof.Rules.WarmResetRaisesRestarted : Prop :=
  ∀ s : State, (∀ n : SpurId, s.spurs[n].settle ≠ 0) →
    (warmReset s).agent.status = 1 &&& s.agent.record
      ∧ (warmReset s).arbiter.notice = (s.agent.record.getLsbD 0 && s.agent.notify.getLsbD 0)

/-- What a warm reset keeps and clears, and the RESTARTED that ends it. -/
def Obligations.WarmResetKeepsAndClears : Prop :=
  Rules.WarmResetKeepsAndClears ∧ Rules.WarmResetRaisesRestarted

/-- The three causes of a warm reset: RSTN's return to high, with the straps then at the pins; the completion of a
RESTART's response; the RESET action of the silence watch, after TRUNK_ACTION, in STAGED and in DIRECT mode. The last
two sample the straps at the levels the pins have come to (R29, R30, R168, R192, R193). How those levels stand in the
pins is log 8, that the reset of RSTN is split at its two edges log 12, how a RESTART's response is recognised log 29,
and that RSTN brings its own reset however soon it follows another log 36. -/
def Obligations.WarmResetCauses : Prop :=
  let moved := fun p : Pins =>
    { p with strapPins := p.laterStraps.headD p.strapPins, laterStraps := p.laterStraps.tail }
  (∀ (straps : Straps) (s : State), s.held = true →
      exec (.rstnHigh straps) s = .next (warmReset { s with pins := { s.pins with strapPins := straps } }))
    ∧ (∀ (f : Frame) (rest : List Byte) (s : State),
        s.held = false → s.trunk.tx = some f → s.agent.restartDue = true → f.kind = .mgmtResponse →
        f.payload = 0x0F :: rest →
        exec .trunkTransmitComplete s = .next
          (warmReset { s with trunk := { s.trunk with tx := none }, pins := moved s.pins }))
    ∧ (∀ s : State,
        s.held = false → s.watch.direct = false → s.watch.stage = .quiet → s.watch.action = .reset →
        s.watch.actionThreshold ≤ elapsed s.watch.quietTime s.clock.now →
        exec .actionThresholdExpiry s = .next
          (warmReset { setStage .done (raise .trunkAction s) with pins := moved s.pins }))
    ∧ (∀ s : State,
        s.held = false → s.watch.direct = true → s.watch.stage = .counting → s.watch.action = .reset →
        s.watch.quietThreshold ≤ elapsed s.watch.episodeStart s.clock.now →
        exec .quietThresholdExpiry s = .next
          (warmReset
            { setStage .done (raise .trunkAction (raise .trunkQuiet (capture .trunkQuiet s))) with
              pins := moved s.pins }))

/-- RSTN going low cuts off the work and holds the part: the trunk's reception and transmission, the queues, the
transition, the walks, the engines and the line check. Every table, setting, context and counter, the event status, the
pins and field time stay as they were (R193). What is cut off at this edge and what comes as RSTN returns is log 12, the
admission profile equal to the applied one and the results of the check at 0 among it; that a reset just taken does not
keep RSTN from holding the part is log 36. -/
def Sys2Proof.Rules.RstnLowCutsOff : Prop :=
  ∀ s : State, s.held = false → ∃ t, exec .rstnLow s = .next t
    ∧ t.held = true
    ∧ t.trunk = { s.trunk with rx := .waiting, tx := none }
    ∧ t.arbiter = ⟨Vector.replicate 4 [], [], false⟩
    ∧ t.hold = { s.hold with records := [] }
    ∧ t.profiles = { s.profiles with admission := s.profiles.applied, transition := none, request := none }
    ∧ t.retention = { s.retention with slots := [], saveRest := [] }
    ∧ t.check =
        { s.check with
          sent := 0, mismatched := 0, missing := 0, outcome := .none, number := 0, register := 0
          expected := none }
    ∧ t.agent = { s.agent with requests := [], restartDue := false }
    ∧ (∀ n : SpurId,
        t.spurs[n] =
          { s.spurs[n] with
            drive := false, presence := .absent, settleTimer := none, rx := .waiting, queue := []
            engine := ⟨.off, none, none, none, false⟩ })
    ∧ t.table = s.table ∧ t.pins = s.pins ∧ t.clock = s.clock ∧ t.watch = s.watch
    ∧ t.admission = s.admission ∧ t.spurLines = s.spurLines
    ∧ t.freeCount = s.freeCount ∧ t.pending = s.pending

/-- A part held in reset by RSTN does nothing: of the commands only power-on, RSTN's return, the pins' levels and the
count of field time change it, the last two nothing but the level and the count (R193; log 19). -/
def Sys2Proof.Rules.HeldPartDoesNothing : Prop :=
  ∀ (c : Instr) (s : State), s.held = true →
    match c with
    | .powerOn _ => True
    | .rstnHigh _ => True
    | .lineSenseChange n level => exec (.lineSenseChange n level) s = .next (recordSense n level s)
        ∨ exec (.lineSenseChange n level) s = .next s
    | .spurGateChange level => exec (.spurGateChange level) s = .next (recordGate level s)
    | .wakePinEdge level => exec (.wakePinEdge level) s = .next (recordWake level s)
    | .timeWrap => exec .timeWrap s = .next (advanceTime s) ∨ exec .timeWrap s = .next s
    | c => exec c s = .next s

/-- RSTN low cuts the work off, and the part it holds does nothing. -/
def Obligations.RstnLowCutsOffAndHolds : Prop :=
  Rules.RstnLowCutsOff ∧ Rules.HeldPartDoesNothing

/-! ## The trunk -/

/-- The bits of a run of bytes, each byte's most significant bit first (R22). -/
def Sys2Proof.Rules.bitsOf (b : List Byte) : List Bool :=
  b.flatMap fun x => [7, 6, 5, 4, 3, 2, 1, 0].map fun k => x.getLsbD k

/-- The bytes of a number, most significant first (00_scope). -/
def Sys2Proof.Rules.bigEndian (bytes n : Nat) : List Byte :=
  (List.range bytes).reverse.map fun k => BitVec.ofNat 8 (n / 256 ^ k)

/-- The check of a run of bytes, a CRC of generator 0x1021 from 0xFFFF (R22). -/
def Sys2Proof.Rules.checkOf (b : List Byte) : BitVec 16 :=
  (Rules.bitsOf b).foldl (fun r x => if r.getLsbD 15 = x then r <<< 1 else (r <<< 1) ^^^ 0x1021) 0xFFFF

/-- The layout of a frame: the six header bytes with the kind's code, the payload, and the check, a CRC of generator
0x1021 over header and payload from 0xFFFF (R20 to R22). -/
def Sys2Proof.Rules.FrameLayout : Prop :=
  (∀ f : Frame,
      let body := [f.destination, f.source,
        BitVec.ofNat 8 (16 * f.kind.code.toNat + 8 * f.more.toNat + 4 * f.echo.toNat + f.channel.toNat / 256),
        BitVec.ofNat 8 f.channel.toNat, f.sequence, BitVec.ofNat 8 f.payload.length] ++ f.payload
      f.bytes = body ++ Rules.bigEndian 2 (Rules.checkOf body).toNat
        ∧ f.symbols = .start :: f.bytes.map .data ++ [.stop])
    ∧ [Kind.command, .response, .close, .closeAck, .test, .mgmtRequest, .mgmtResponse, .notice, .wake].map Kind.code
        = [1, 2, 3, 4, 5, 6, 7, 8, 9]

/-- The bytes of a frame are a valid reception of that frame, and every valid reception is the bytes of its frame: no
bit of header, payload or check is dropped or misplaced (R19 to R22, R24). -/
def Sys2Proof.Rules.BytesReadBack : Prop :=
  (∀ f : Frame, f.payload.length ≤ 240 →
      f.bytes.length = 8 + f.payload.length ∧ verdict f.bytes = .valid f)
    ∧ ∀ (b : List Byte) (f : Frame), verdict b = .valid f → f.payload.length ≤ 240 ∧ f.bytes = b

/-- A frame's bytes are laid out as R21 gives, and are read back as the frame. -/
def Obligations.FrameBytesRoundTrip : Prop :=
  Rules.FrameLayout ∧ Rules.BytesReadBack

/-- A valid frame that arrives on the trunk restarts the silence watch and is then dispatched (R23, R24, R26). -/
def Sys2Proof.Rules.TrunkFrameIsDispatched : Prop :=
  ∀ (f : Frame) (s : State),
    f.payload.length ≤ 240 → s.held = false → s.trunk.rx = .waiting →
    exec (.trunkReceptionEnd f.symbols) s = .next (dispatch f (restartWatch s))

/-- A reception that is not a valid frame is counted in its own counter, saturating, raises TRUNK_ERROR and changes
nothing else: END for a malformed delimiter, an idle line or a 249th byte, and for a start delimiter, which begins a new
reception; then SHORT and CHECK. A valid frame of an unknown kind restarts the silence watch and is counted BAD_KIND
(R23 to R26). -/
def Sys2Proof.Rules.DamagedTrunkReceptionCounted : Prop :=
  ∀ (b : List Byte) (x : Symbol) (s : State),
    b.length ≤ 248 → s.held = false → s.trunk.rx = .waiting →
    (x = .malformed ∨ x = .idle ∨ b.length = 248 ∧ (∃ y : Byte, x = .data y) →
        exec (.trunkReceptionEnd (.start :: b.map .data ++ [x])) s
          = .next (raise .trunkError
              { s with trunk := { s.trunk with
                  errors := { s.trunk.errors with ends := satInc s.trunk.errors.ends } } }))
      ∧ exec (.trunkReceptionEnd (.start :: b.map .data ++ [.start])) s
          = .next (raise .trunkError
              { s with trunk := { s.trunk with
                  rx := .collecting []
                  errors := { s.trunk.errors with ends := satInc s.trunk.errors.ends } } })
      ∧ (verdict b = .unknownKind →
        exec (.trunkReceptionEnd (.start :: b.map .data ++ [.stop])) s
          = .next (raise .trunkError
              { restartWatch s with trunk := { s.trunk with
                  errors := { s.trunk.errors with badKind := satInc s.trunk.errors.badKind } } }))
      ∧ (verdict b = .short →
        exec (.trunkReceptionEnd (.start :: b.map .data ++ [.stop])) s
          = .next (raise .trunkError
              { s with trunk := { s.trunk with
                  errors := { s.trunk.errors with short := satInc s.trunk.errors.short } } }))
      ∧ (verdict b = .check →
        exec (.trunkReceptionEnd (.start :: b.map .data ++ [.stop])) s
          = .next (raise .trunkError
              { s with trunk := { s.trunk with
                  errors := { s.trunk.errors with check := satInc s.trunk.errors.check } } }))

/-- What a completed reception is, by the first check that fails: SHORT with fewer than 8 bytes, a byte 5 above 240 or a
count other than 8 + byte 5; then CHECK where the check received is not that of the bytes before it; then the unknown
kind, a code outside 1..9; else it is a valid frame (R22, R24, R37). -/
def Sys2Proof.Rules.VerdictByOrder : Prop :=
  ∀ b : List Byte,
    let l := (b.getD 5 0).toNat
    let sound := 8 ≤ b.length ∧ l ≤ 240 ∧ b.length = 8 + l
    let checked := b.drop (6 + l) = Rules.bigEndian 2 (Rules.checkOf (b.take (6 + l))).toNat
    let code := (b.getD 2 0).toNat / 16
    (verdict b = .short ↔ ¬sound)
      ∧ (verdict b = .check ↔ sound ∧ ¬checked)
      ∧ (verdict b = .unknownKind ↔ sound ∧ checked ∧ (code = 0 ∨ 9 < code))
      ∧ ((∃ f : Frame, verdict b = .valid f) ↔ sound ∧ checked ∧ 1 ≤ code ∧ code ≤ 9)

/-- A trunk reception is dispatched when it is a valid frame and counted as an error when it is not. -/
def Obligations.TrunkReceptions : Prop :=
  Rules.VerdictByOrder ∧ Rules.TrunkFrameIsDispatched ∧ Rules.DamagedTrunkReceptionCounted

/-- Dispatch by kind, destination and channel: a COMMAND not for the part on a channel above 0 is looked up; a request
or WAKE for another station is WRONG_STATION; every other refused frame is BAD_KIND (R26). -/
def Sys2Proof.Rules.DispatchByKind : Prop :=
  ∀ (f : Frame) (s : State),
    let mine := f.destination = station s ∨ f.destination = 0xFF
    (f.kind = .command → f.destination ≠ station s → f.channel ≠ 0 → dispatch f s = arriveDown f s)
      ∧ (f.kind = .command → f.destination = station s ∨ f.channel = 0 →
          dispatch f s = trunkError .badKind s)
      ∧ (f.kind = .mgmtRequest ∨ f.kind = .wake → ¬mine → dispatch f s = trunkError .wrongStation s)
      ∧ (f.kind = .wake → mine → dispatch f s = takeWakeFrame f s)
      ∧ (f.kind ≠ .command → f.kind ≠ .mgmtRequest → f.kind ≠ .wake →
          dispatch f s = trunkError .badKind s)

/-- A trunk error counts one in its own counter alone and raises TRUNK_ERROR, found at 65535 or not (R25). -/
def Sys2Proof.Rules.TrunkErrorCounted : Prop :=
  ∀ s : State,
    let counted := fun errors : TrunkErrors =>
      raise .trunkError { s with trunk := { s.trunk with errors := errors } }
    let e := s.trunk.errors
    trunkError .check s = counted { e with check := satInc e.check }
      ∧ trunkError .ends s = counted { e with ends := satInc e.ends }
      ∧ trunkError .short s = counted { e with short := satInc e.short }
      ∧ trunkError .badKind s = counted { e with badKind := satInc e.badKind }
      ∧ trunkError .wrongStation s = counted { e with wrongStation := satInc e.wrongStation }
      ∧ ∀ c : Count16, satInc c = if c.toNat = 65535 then c else c + 1

/-- A MGMT_REQUEST for the part with an operation and a tag joins the request queue with its source address, or raises
MGMT_OVERFLOW when 4 wait; a shorter one is counted SHORT (R27, R180). -/
def Sys2Proof.Rules.ManagementRequestQueued : Prop :=
  ∀ (f : Frame) (s : State),
    f.kind = .mgmtRequest → f.destination = station s ∨ f.destination = 0xFF →
    dispatch f s =
      if f.payload.length < 2 then trunkError .short s
      else if s.agent.requests.length < 4 then
        { s with agent := { s.agent with requests := s.agent.requests ++ [⟨f.source, f.payload⟩] } }
      else raise .mgmtOverflow s

/-- A WAKE frame raises WAKE_FRAME and makes one request with source WAKE_FRAME to DAY, DUSK or WAKE_TARGET by the
first byte of its payload (R28). -/
def Sys2Proof.Rules.WakeFrameMakesRequest : Prop :=
  ∀ (f : Frame) (s : State),
    takeWakeFrame f s =
      (takeRequest
        ⟨.wakeFrame,
          if f.payload.head? = some 2 then .day
          else if f.payload.head? = some 1 then .dusk
          else s.profiles.wakeTarget⟩
        (raise .wakeFrame s)).1

/-- Where each valid trunk frame goes, and what a refused one counts. -/
def Obligations.TrunkDispatch : Prop :=
  Rules.DispatchByKind ∧ Rules.TrunkErrorCounted ∧ Rules.ManagementRequestQueued ∧ Rules.WakeFrameMakesRequest

/-- The Arbiter, with the transmitter free, takes the head response, then a notice, then the head of the highest class
queue; an originated frame takes the sequence number, which advances, and the notice its snapshot (R31, R35, R83,
R84). -/
def Sys2Proof.Rules.ArbiterTakesInOrder : Prop :=
  ∀ s : State, s.held = false → s.trunk.tx = none →
    (∀ (r : Response) (rest : List Response), s.arbiter.responses = r :: rest →
        exec .arbiterTake s = .next
          { s with
            trunk := { s.trunk with
              tx := some
                ⟨r.destination, r.source, .mgmtResponse, false, false, 0, s.trunk.sequence, r.payload⟩
              sequence := s.trunk.sequence + 1 }
            arbiter := { s.arbiter with responses := rest } })
      ∧ (s.arbiter.responses = [] → s.arbiter.notice = true →
        ∃ summary : Byte,
          (∀ n : SpurId, summary.getLsbD n.val = s.spurs[n].enginePresent)
            ∧ summary.getLsbD 6 = false ∧ summary.getLsbD 7 = false
            ∧ exec .arbiterTake s = .next
                { s with
                  trunk := { s.trunk with
                    tx := some
                      ⟨0x00, station s, .notice, false, false, 0, s.trunk.sequence,
                        bytes32 (s.agent.status.setWidth 32)
                          ++ [byteOf s.profiles.applied.code, byteOf ((phase s).elim 0 Phase.code)]
                          ++ bytes40 s.clock.now ++ [summary]⟩
                    sequence := s.trunk.sequence + 1 }
                  arbiter := { s.arbiter with notice := false } })
      ∧ ∀ (q : Fin 4) (f : Frame) (rest : List Frame),
          s.arbiter.responses = [] → s.arbiter.notice = false → s.arbiter.classQueues[q] = f :: rest →
          (∀ p : Fin 4, q < p → s.arbiter.classQueues[p] = []) →
          exec .arbiterTake s = .next
            { s with
              trunk := { s.trunk with tx := some f }
              arbiter := { s.arbiter with classQueues := s.arbiter.classQueues.set q rest } }

/-- The completion of a transmission frees the transmitter; any frame but a RESTART's response changes nothing else,
another operation's response while the restart-due mark is set included (R30; log 29). -/
def Sys2Proof.Rules.TransmitCompleteFrees : Prop :=
  ∀ (f : Frame) (s : State),
    s.held = false → s.trunk.tx = some f →
    s.agent.restartDue = false ∨ f.kind ≠ .mgmtResponse ∨ f.payload.head? ≠ some 0x0F →
    exec .trunkTransmitComplete s = .next { s with trunk := { s.trunk with tx := none } }

/-- What the trunk transmitter takes, in which order, and its release. -/
def Obligations.TrunkTransmitter : Prop :=
  Rules.ArbiterTakesInOrder ∧ Rules.TransmitCompleteFrees

/-! ## Admission and contexts -/

/-- A raised event sets its flag exactly when it is record-enabled, and sets the notice flag when its flag goes from
clear to set while it is notify-enabled; every other flag and everything else stays (R82, R188, R190). -/
def Sys2Proof.Rules.EventRaised : Prop :=
  ∀ (e : Event) (s : State),
    let goes := s.agent.record.getLsbD e.number && !s.agent.status.getLsbD e.number
    raise e s =
        { s with
          agent := { s.agent with status := (raise e s).agent.status }
          arbiter := { s.arbiter with notice := s.arbiter.notice || (goes && s.agent.notify.getLsbD e.number) } }
      ∧ (raise e s).agent.status.getLsbD e.number =
          (s.agent.status.getLsbD e.number || s.agent.record.getLsbD e.number)
      ∧ ∀ i : Nat, i ≠ e.number → (raise e s).agent.status.getLsbD i = s.agent.status.getLsbD i

/-- A COMMAND without a DOWN entry: the miss is counted; under FLOOD one copy with no expected response and no auto
close goes to every PRESENT spur that is not closing and has room. One lost to a full queue raises QUEUE_DROP, a copy
placed restarts the dormancy timer, and no context and nothing else changes (R14). -/
def Sys2Proof.Rules.DownMissDropsOrFloods : Prop :=
  ∀ (f : Frame) (s : State), lookup f.channel .down s = none →
    let missed := { s.admission with missDown := satInc s.admission.missDown }
    let qualifies := fun n : SpurId => decide (s.spurs[n].presence = .present) && !isClosing n s
    let room := fun n : SpurId => decide (s.spurs[n].queue.length < 8)
    let t := arriveDown f s
    (s.admission.floodDown = false → t = { s with admission := missed })
      ∧ (s.admission.floodDown = true →
        let dropped := if ∃ n : SpurId, qualifies n && !room n then raise .queueDrop s else s
        (∀ n : SpurId,
            t.spurs[n] =
              if qualifies n && room n then
                { s.spurs[n] with queue := s.spurs[n].queue ++ [⟨f, false, false⟩] }
              else s.spurs[n])
          ∧ t.profiles =
              (if ∃ n : SpurId, qualifies n && room n then { s.profiles with dormancy := some s.clock.now }
              else s.profiles)
          ∧ t.admission = missed ∧ t.agent = dropped.agent ∧ t.arbiter = dropped.arbiter
          ∧ { t with
              spurs := s.spurs, profiles := s.profiles, admission := s.admission, agent := s.agent
              arbiter := s.arbiter } = s)

/-- A RESPONSE without an UP entry: the miss is counted; under FORWARD the frame joins Q0, restarting the dormancy
timer, or is lost with QUEUE_DROP (R13). -/
def Sys2Proof.Rules.UpMissDropsOrForwards : Prop :=
  ∀ (n : SpurId) (f : Frame) (s : State), lookup f.channel .up s = none →
    arriveUp n f s =
      let t := { s with admission := { s.admission with missUp := satInc s.admission.missUp } }
      if s.admission.forwardUp = false then t
      else if s.arbiter.classQueues[(0 : Fin 4)].length < 16 then
        { t with
          arbiter := { t.arbiter with
            classQueues := t.arbiter.classQueues.set 0 (t.arbiter.classQueues[(0 : Fin 4)] ++ [f]) }
          profiles := { t.profiles with dormancy := some t.clock.now } }
      else raise .queueDrop t

/-- The two miss policies. -/
def Obligations.MissPolicies : Prop :=
  Rules.DownMissDropsOrFloods ∧ Rules.UpMissDropsOrForwards

/-- A frame whose entry is not live meets its otherwise-action: refused, held, or held with WAKE_FRAME raised and a
request to WAKE_TARGET, counted in the working context (R16, R17, R43). That during RESTORE it is counted in the Context
Store's also for an entry whose slot is good and not yet restored is the model's choice (log 37). -/
def Sys2Proof.Rules.OtherwiseAction : Prop :=
  ∀ (i : Position) (e : Entry) (port : Port) (f : Frame) (s : State),
    e.live.getLsbD s.profiles.admission.code = false →
    let context := workingContext i s
    let held := holdFrame ⟨i, e.direction, port, s.clock.now, f⟩ context s
    (e.otherwise = .drop → admitArrival i e port f s = modifyContext context countRefused s)
      ∧ (e.otherwise = .hold → admitArrival i e port f s = held)
      ∧ (e.otherwise = .wake →
          admitArrival i e port f s =
            (takeRequest ⟨.wakeFrame, s.profiles.wakeTarget⟩ (raise .wakeFrame held)).1)

/-- A frame of a live entry that SAVE or RESTORE locks is held and raises no request: in SAVE an entry covered by the
save list, counted in its slot once it has one and in the Context Store before; in RESTORE an entry whose slot is not
superseded and not yet copied, counted in the slot (R44, R45). -/
def Sys2Proof.Rules.LockedFrameIsHeld : Prop :=
  ∀ (i : Position) (e : Entry) (port : Port) (f : Frame) (s : State), isLive e s = true →
    let r : HeldFrame := ⟨i, e.direction, port, s.clock.now, f⟩
    (phase s = some .save → covered i s = true →
        (slotOf i s = none → admitArrival i e port f s = holdFrame r (some (.store i)) s)
          ∧ ∀ k : Nat, slotOf i s = some k → admitArrival i e port f s = holdFrame r (some (.slot k)) s)
      ∧ (phase s = some .restore → ∀ k : Nat, goodSlotOf i s = some k → s.retention.restoreNext ≤ k →
          admitArrival i e port f s = holdFrame r (some (.slot k)) s)

/-- A frame to be held joins the tail while fewer than 64 are held, with held+1 in its context and the event of every
mark at the new occupancy raised; otherwise it is discarded with HOLD_OVERFLOW and refused+1, and the queue is unchanged
(R43, R60 to R62). -/
def Sys2Proof.Rules.HeldFrameAppendedOrOverflows : Prop :=
  ∀ (r : HeldFrame) (c : Option ContextRef) (s : State),
    let t := holdFrame r c s
    (s.hold.records.length < 64 →
        t.hold = { s.hold with records := s.hold.records ++ [r] }
          ∧ t.admission = (modifyContext c countHeld s).admission
          ∧ t.retention = (modifyContext c countHeld s).retention
          ∧ { t with
              hold := s.hold, admission := s.admission, retention := s.retention, agent := s.agent
              arbiter := s.arbiter } = s
          ∧ ∀ m : Fin 4,
              t.agent.status.getLsbD (7 + m.val) =
                (s.agent.status.getLsbD (7 + m.val)
                  || (decide (s.hold.marks[m] = s.hold.records.length + 1)
                      && s.agent.record.getLsbD (7 + m.val))))
      ∧ (64 ≤ s.hold.records.length →
        t = modifyContext c countRefused (raise .holdOverflow s))

/-- Whether SAVE or RESTORE locks the entry at a position: in SAVE where the save list covers it, in RESTORE where its
slot is not superseded and not yet copied (R44, R45). -/
def Sys2Proof.Rules.Locked (i : Position) (s : State) : Prop :=
  phase s = some .save ∧ covered i s = true
    ∨ phase s = some .restore ∧ ∃ k : Nat, goodSlotOf i s = some k ∧ s.retention.restoreNext ≤ k

/-- A lookup finds a position that holds an entry of the channel and direction, and finds none when there is none; with
no two such positions it finds the only one (R3, R11). -/
def Sys2Proof.Rules.LookupFindsEntry : Prop :=
  ∀ (channel : Channel) (d : Direction) (s : State),
    (∀ i : Position, lookup channel d s = some i →
        ∃ e : Entry, s.table[i] = some e ∧ e.channel = channel ∧ e.direction = d)
      ∧ (lookup channel d s = none →
        ∀ (i : Position) (e : Entry), s.table[i] = some e → e.channel ≠ channel ∨ e.direction ≠ d)
      ∧ (TableLaw s → ∀ (i : Position) (e : Entry),
        s.table[i] = some e → e.channel = channel → e.direction = d → lookup channel d s = some i)

/-- A COMMAND whose lookup hits goes to admission with the trunk as its port. A RESPONSE whose lookup hits goes there
with its spur when the entry names it; from any other spur it is refused, counted in the working context unless the
entry is locked (R11, R12). -/
def Sys2Proof.Rules.HitGoesToAdmission : Prop :=
  ∀ (f : Frame) (i : Position) (e : Entry) (s : State), s.table[i] = some e →
    (lookup f.channel .down s = some i → arriveDown f s = admitArrival i e .trunk f s)
      ∧ ∀ n : SpurId, lookup f.channel .up s = some i →
        (inSet n e.spurs = true → arriveUp n f s = admitArrival i e (.spur n) f s)
          ∧ (inSet n e.spurs = false → Rules.Locked i s → arriveUp n f s = s)
          ∧ (inSet n e.spurs = false → ¬Rules.Locked i s →
            arriveUp n f s = modifyContext (workingContext i s) countRefused s)

/-- What becomes of a frame that reaches admission and whose entry is not live or is locked, and how a frame is held. -/
def Obligations.FramesThatMayNotPass : Prop :=
  Rules.LookupFindsEntry ∧ Rules.HitGoesToAdmission ∧ Rules.OtherwiseAction ∧ Rules.LockedFrameIsHeld
    ∧ Rules.HeldFrameAppendedOrOverflows

/-- The sequence check: any number is accepted first; the last number again is a repeat and is discarded; the next one
is accepted; any other is accepted and counted as a gap (R46). -/
def Sys2Proof.Rules.SequenceCheckOutcomes : Prop :=
  ∀ (q : Byte) (c : Context),
    (c.lastSequence = none →
        checkSequence q c = ({ c with lastSequence := some q, live := true }, true))
      ∧ (c.lastSequence = some q →
        checkSequence q c = ({ c with repeats := satInc c.repeats, live := true }, false))
      ∧ ∀ l : Byte, c.lastSequence = some l → q ≠ l →
          checkSequence q c =
            ({ c with
                lastSequence := some q
                gaps := if q = l + 1 then c.gaps else satInc c.gaps
                live := true }, true)

/-- The policer: whole periods since the refill mark are credited up to the depth, the mark keeping the rest of a
period below the cap and becoming now at it; a token is then taken, or the frame is discarded and counted (R47,
R48). -/
def Sys2Proof.Rules.PolicerRefillsAndTakes : Prop :=
  ∀ (p : Policer) (now : Time) (c : Context),
    let n := (now - c.refillMark).toNat / p.period
    let tokens := if n = 0 then c.tokens else min (c.tokens + n) p.depth
    let mark :=
      if n = 0 then c.refillMark
      else if c.tokens + n ≤ p.depth then c.refillMark + BitVec.ofNat 40 (n * p.period)
      else now
    takeToken p now c =
      if tokens = 0 then
        ({ c with tokens := 0, refillMark := mark, policed := satInc c.policed, live := true }, false)
      else ({ c with tokens := tokens - 1, refillMark := mark }, true)

/-- Where the working context of a position stands, and what a count does to a context: in DAY and DUSK the Context
Store's, in NIGHT the copy in its slot that is not superseded, else none; the counts saturate but for passed, which
wraps with the last admitted time set, and the context becomes LIVE (R39, R41, R42, R49, R55). -/
def Sys2Proof.Rules.WorkingContextAndCounts : Prop :=
  (∀ (i : Position) (s : State),
      (s.profiles.applied ≠ .night → s.admission.store.isSome = true → workingContext i s = some (.store i))
        ∧ (s.profiles.applied = .night → ∀ (k : Nat) (x : Slot),
          s.retention.slots[k]? = some x → x.index = i → x.superseded = false →
          (∀ (j : Nat) (y : Slot), j < k → s.retention.slots[j]? = some y → y.index ≠ i) →
          workingContext i s = some (.slot k))
        ∧ (s.profiles.applied = .night →
          (∀ x ∈ s.retention.slots, x.index = i → x.superseded = true) → workingContext i s = none))
    ∧ (∀ (g : Context → Context) (s : State),
      modifyContext none g s = s
        ∧ (∀ (i : Position) (v : Vector Context 128), s.admission.store = some v →
          modifyContext (some (.store i)) g s
            = { s with admission := { s.admission with store := some (v.set i (g v[i])) } })
        ∧ ∀ (k : Nat) (x : Slot), s.retention.slots[k]? = some x →
          modifyContext (some (.slot k)) g s
            = { s with retention := { s.retention with
                slots := s.retention.slots.set k { x with context := g x.context } } })
    ∧ ∀ (c : Context) (now : Time),
      countHeld c = { c with held := satInc c.held, live := true }
        ∧ countRefused c = { c with refused := satInc c.refused, live := true }
        ∧ countPassed now c = { c with passed := c.passed + 1, lastAdmitted := some now, live := true }

/-- What the last steps of admission make of a frame against an entry: with no working context it is forwarded bare;
else the sequence check where it is on and then the policer where there is one may each discard it, and a frame that
passes both counts passed+1 and is forwarded (R42, R46 to R49). -/
def Sys2Proof.Rules.Admitted (i : Position) (e : Entry) (d : Direction) (f : Frame) (s t : State) : Prop :=
  (workingContext i s = none → t = forward e d f none s)
    ∧ ∀ (r : ContextRef) (c : Context), workingContext i s = some r → getContext r s = some c →
      let checked := if e.sequenceCheck then checkSequence f.sequence c else (c, true)
      let policed := e.policer.elim (checked.1, true) fun p => takeToken p s.clock.now checked.1
      (checked.2 = false → t = modifyContext (some r) (fun _ => checked.1) s)
        ∧ (checked.2 = true → policed.2 = false → t = modifyContext (some r) (fun _ => policed.1) s)
        ∧ (checked.2 = true → policed.2 = true →
          t = forward e d f (some r)
            (modifyContext (some r) (fun _ => countPassed s.clock.now policed.1) s))

/-- A frame that arrives for a live, unlocked entry passes through the last steps of admission in the entry's direction
(R42, R46 to R49). -/
def Sys2Proof.Rules.LiveFramePasses : Prop :=
  ∀ (i : Position) (e : Entry) (port : Port) (f : Frame) (s : State),
    isLive e s = true → ¬Rules.Locked i s → Rules.Admitted i e e.direction f s (admitArrival i e port f s)

/-- The admission of a frame of a live entry: its working context, the sequence check, the policer and the counts. -/
def Obligations.SequenceCheckAndPolicer : Prop :=
  Rules.WorkingContextAndCounts ∧ Rules.LiveFramePasses ∧ Rules.SequenceCheckOutcomes
    ∧ Rules.PolicerRefillsAndTakes

/-- An UP frame that reaches forwarding joins the class queue its entry names and restarts the dormancy timer; with 16
frames there it is lost, refused+1 is counted in the working context and QUEUE_DROP is raised (R50, R51). -/
def Obligations.UpFrameJoinsClassQueue : Prop :=
  ∀ (e : Entry) (f : Frame) (r : Option ContextRef) (s : State),
    (s.arbiter.classQueues[e.cls].length < 16 →
        forward e .up f r s =
          { s with
            arbiter := { s.arbiter with
              classQueues := s.arbiter.classQueues.set e.cls (s.arbiter.classQueues[e.cls] ++ [f]) }
            profiles := { s.profiles with dormancy := some s.clock.now } })
      ∧ (16 ≤ s.arbiter.classQueues[e.cls].length →
        forward e .up f r s = modifyContext r countRefused (raise .queueDrop s))

/-- A DOWN frame that reaches forwarding is copied, with its entry's expects-response and auto-close values, to every
spur of its entry that is not ABSENT, not closing and has room; no other queue changes. Each copy that is not placed
counts refused+1 in the working context, one lost to a full queue raises QUEUE_DROP, and the first copy placed restarts
the dormancy timer (R49, R51). -/
def Obligations.DownFrameCopiedToSpurs : Prop :=
  ∀ (e : Entry) (f : Frame) (r : Option ContextRef) (s : State),
    let reached := fun n : SpurId => decide (s.spurs[n].presence ≠ .absent) && !isClosing n s
    let room := fun n : SpurId => decide (s.spurs[n].queue.length < 8)
    let t := forward e .down f r s
    let counted := ((spursOf e.spurs).filter fun n => !(reached n && room n)).foldl
      (fun u _ => modifyContext r countRefused u) s
    let dropped := if (spursOf e.spurs).any fun n => reached n && !room n then raise .queueDrop s else s
    (∀ n : SpurId,
        t.spurs[n] =
          if inSet n e.spurs && reached n && room n then
            { s.spurs[n] with queue := s.spurs[n].queue ++ [⟨f, e.expectsResponse, e.autoClose⟩] }
          else s.spurs[n])
      ∧ t.admission = counted.admission ∧ t.retention = counted.retention
      ∧ t.profiles =
          (if (spursOf e.spurs).any fun n => reached n && room n then
            { s.profiles with dormancy := some s.clock.now }
          else s.profiles)
      ∧ t.agent = dropped.agent ∧ t.arbiter = dropped.arbiter
      ∧ { t with
          spurs := s.spurs, admission := s.admission, retention := s.retention, profiles := s.profiles
          agent := s.agent, arbiter := s.arbiter } = s

/-! ## The Hold Queue -/

/-- HOLD_EXPIRY removes the records at the head whose age has reached the maximum age and counts each as discarded; when
there is one HOLD_EXPIRED is raised, and nothing else changes (R64, R71). -/
def Sys2Proof.Rules.HoldExpiryRemovesAgedHead : Prop :=
  ∀ s : State, s.held = false →
    let t :=
      { s with hold := { s.hold with
          records := s.hold.records.dropWhile (aged s)
          discards := satAdd s.hold.discards (s.hold.records.takeWhile (aged s)).length } }
    exec .holdExpiry s =
      .next (if s.hold.records.takeWhile (aged s) = [] then t else raise .holdExpired t)

/-- The release at END, where no record's entry is live: KEEP leaves the records as they are, DISCARD removes and
counts every one (R67, R71). That a record of an empty position, which R70 leaves none, counts as not live is the
model's choice (log 25). -/
def Sys2Proof.Rules.ReleaseOfFramesNotLive : Prop :=
  ∀ s : State,
    (∀ r ∈ s.hold.records, ∀ e : Entry, s.table[r.index] = some e → isLive e s = false) →
    release false s = s
      ∧ release true s =
          { s with hold := { s.hold with
              records := [], discards := satAdd s.hold.discards s.hold.records.length } }

/-- What the release walk makes of one record, on a queue that holds the records kept so far: the frame of an entry live
in the admission profile passes through the last steps of admission at the moment of release, no lock tested; any other
record is kept as it is, or discarded and counted under DISCARD (R54, R67). That the frame goes by its record's
direction is the model's choice (log 24), and so is that a record of an empty position counts as not live (log 25). -/
def Sys2Proof.Rules.RecordReleased (discard : Bool) (r : HeldFrame) (s t : State) : Prop :=
  (∀ e : Entry, s.table[r.index] = some e → e.live.getLsbD s.profiles.admission.code = true →
      Rules.Admitted r.index e r.direction r.frame s t)
    ∧ ((∀ e : Entry, s.table[r.index] = some e → e.live.getLsbD s.profiles.admission.code = false) →
      t = { s with hold :=
        if discard then { s.hold with discards := satInc s.hold.discards }
        else { s.hold with records := s.hold.records ++ [r] } })

/-- The release walk over records from head to tail, each taken whole before the next (R54, R67, R68). -/
def Sys2Proof.Rules.WalkReleases (discard : Bool) : List HeldFrame → State → State → Prop
  | [], s, t => t = s
  | r :: rest, s, t => ∃ u : State, Rules.RecordReleased discard r s u ∧ Rules.WalkReleases discard rest u t

/-- The release takes every record of the queue from head to tail, each whole before the next, no lock tested: a frame
of a live entry leaves the queue and is admitted anew against its working context, sequence check, policer and
forwarding; any other is kept in its order, or discarded and counted under DISCARD (R54, R66 to R68). That a frame
goes by its record's direction is the model's choice (log 24), and so is that a record of an empty position is not
live (log 25). -/
def Sys2Proof.Rules.ReleaseIsTheWalk : Prop :=
  ∀ (discard : Bool) (s : State),
    Rules.WalkReleases discard s.hold.records { s with hold := { s.hold with records := [] } } (release discard s)

/-- How records leave the Hold Queue: by age, by release into admission, and by DISCARD. -/
def Obligations.HoldQueueExpiryAndRelease : Prop :=
  Rules.HoldExpiryRemovesAgedHead ∧ Rules.ReleaseIsTheWalk ∧ Rules.ReleaseOfFramesNotLive

/-! ## The spur lines -/

/-- An engine takes a copy at once: the head of its queue in IDLE, the first copy of the burst in IN_BURST, the copies
ahead of it staying in place; the copy becomes outstanding and the engine sends it (R95, R96). -/
def Obligations.EngineTakesCopy : Prop :=
  ∀ (n : SpurId) (c : Copy) (s : State), s.held = false →
    (∀ rest : List Copy,
        s.spurs[n].engine.state = .idle → s.spurs[n].engine.claimWaiting = false →
        s.spurs[n].queue = c :: rest →
        exec (.engineTakeCopy n) s = .next
          (modifySpur n
            (fun sp => { sp with
              rx := .own, queue := rest
              engine := { sp.engine with state := .sending, outstanding := some c, timer := none } }) s))
      ∧ ∀ (b : Burst) (before after : List Copy),
          s.spurs[n].engine.state = .inBurst → s.spurs[n].engine.burst = some b →
          s.spurs[n].queue = before ++ c :: after →
          c.frame.channel = b.channel → c.frame.destination = b.station →
          (∀ x ∈ before, x.frame.channel ≠ b.channel ∨ x.frame.destination ≠ b.station) →
          exec (.engineTakeCopy n) s = .next
            (modifySpur n
              (fun sp => { sp with
                rx := .own, queue := before ++ after
                engine := { sp.engine with state := .sending, outstanding := some c, timer := none } }) s)

/-- A COMMAND's transmission completes: with more 1 the burst opens or goes on and the gap timer starts; with more 0
an open burst is refreshed, and the engine awaits the response with its window, or the exchange ends as a success:
CLOSING with the burst's CLOSE where its auto close is on, else IDLE, where a waiting claim is granted (R95, R97, R101,
R104). -/
def Sys2Proof.Rules.CommandTransmissionCompletes : Prop :=
  ∀ (n : SpurId) (c : Copy) (s : State),
    s.held = false → s.spurs[n].engine.state = .sending → s.spurs[n].rx = .own →
    s.spurs[n].engine.outstanding = some c →
    let burst : Option Burst :=
      s.spurs[n].engine.burst.map fun b => { b with autoClose := c.autoClose, lastSequence := c.frame.sequence }
    (c.frame.more = true →
        exec (.commandTransmitComplete n) s = .next
          (modifySpur n
            (fun sp => { sp with
              rx := .waiting
              engine := { sp.engine with
                state := .inBurst, outstanding := none
                burst := some (burst.getD ⟨c.frame.channel, c.frame.destination, c.autoClose, c.frame.sequence⟩)
                timer := some ⟨.burstGap, s.clock.now, sp.burstGap⟩ } }) s))
      ∧ (c.frame.more = false → c.expectsResponse = true →
        exec (.commandTransmitComplete n) s = .next
          (modifySpur n
            (fun sp => { sp with
              rx := .waiting
              engine := { sp.engine with
                state := .awaitingResponse, burst := burst
                timer := some ⟨.responseWindow, s.clock.now, sp.responseWindow⟩ } }) s))
      ∧ (c.frame.more = false → c.expectsResponse = false →
        c.autoClose = false ∨ s.spurs[n].engine.burst = none →
        exec (.commandTransmitComplete n) s = .next
          (grantIfDue n
            (modifySpur n
              (fun sp => { sp with
                rx := .waiting
                engine := { sp.engine with state := .idle, outstanding := none, burst := none, timer := none } })
              s)))
      ∧ ∀ b : Burst, c.frame.more = false → c.expectsResponse = false → c.autoClose = true →
          s.spurs[n].engine.burst = some b →
          exec (.commandTransmitComplete n) s = .next
            (modifySpur n
              (fun sp => { sp with
                rx := .own
                engine := { sp.engine with
                  state := .closing, burst := burst, timer := none
                  outstanding :=
                    some ⟨⟨b.station, station s, .close, false, false, b.channel, c.frame.sequence, []⟩,
                      false, false⟩ } }) s)

/-- A CLOSE or a TEST has been sent: the engine awaits its acknowledgement or its echo, with the close or response
window read now (R104, R109). -/
def Sys2Proof.Rules.CloseAndTestTransmissionsComplete : Prop :=
  ∀ (n : SpurId) (s : State), s.held = false → s.spurs[n].rx = .own →
    (s.spurs[n].engine.state = .closing →
        exec (.closeTransmitComplete n) s = .next
          (modifySpur n
            (fun sp => { sp with
              rx := .waiting
              engine := { sp.engine with
                state := .awaitingCloseAck, timer := some ⟨.closeWindow, s.clock.now, sp.closeWindow⟩ } }) s))
      ∧ (s.spurs[n].engine.state = .checking →
        exec (.testTransmitComplete n) s = .next
          (modifySpur n
            (fun sp => { sp with
              rx := .waiting
              engine := { sp.engine with
                timer := some ⟨.responseWindow, s.clock.now, sp.responseWindow⟩ } }) s))

/-- What the end of each transmission on a spur does. -/
def Obligations.TransmissionsComplete : Prop :=
  Rules.CommandTransmissionCompletes ∧ Rules.CloseAndTestTransmissionsComplete

/-- Spur error flags are sticky: an occurrence sets its flags, and raises SPUR_ERRORn when one of them was clear
(R112). -/
def Sys2Proof.Rules.SpurFlagsSet : Prop :=
  ∀ (n : SpurId) (flags : BitVec 11) (s : State),
    let t := modifySpur n (fun sp => { sp with errors := sp.errors ||| flags }) s
    setSpurFlags n flags s =
      if s.spurs[n].errors ||| flags = s.spurs[n].errors then t else raise (.spurError n) t

/-- How an event and a spur error flag are set, and what they raise. -/
def Obligations.EventsAndSpurFlags : Prop :=
  Rules.EventRaised ∧ Rules.SpurFlagsSet

/-- A conflict stops the transmission: of a COMMAND with CHECK and TIMEOUT set, IDLE without a burst and STALLED with
CLOSE_NOT_SENT with one; of a CLOSE with CLOSE_CHECK and CLOSE_TIMEOUT set and STALLED; records and timer clear, and an
engine come to IDLE grants a waiting claim (R95, R98, R101, R104). -/
def Sys2Proof.Rules.ConflictsStopTransmissions : Prop :=
  ∀ (n : SpurId) (s : State), s.held = false → s.spurs[n].rx = .own →
    let cleared := fun state : EngineState =>
      modifySpur n
        (fun sp => { sp with
          rx := .waiting
          engine := { sp.engine with state := state, outstanding := none, burst := none, timer := none } }) s
    (s.spurs[n].engine.state = .sending → s.spurs[n].engine.burst = none →
        exec (.commandConflict n) s = .next (grantIfDue n (setSpurFlags n 0b00000000011 (cleared .idle))))
      ∧ (s.spurs[n].engine.state = .sending → s.spurs[n].engine.burst ≠ none →
        exec (.commandConflict n) s = .next (setSpurFlags n 0b00010000011 (cleared .stalled)))
      ∧ (s.spurs[n].engine.state = .closing →
        exec (.closeConflict n) s = .next (setSpurFlags n 0b01100000000 (cleared .stalled)))

/-- The response window expires: TIMEOUT set, the outstanding record cleared, the exchange a failure: IDLE without a
burst, where a waiting claim is granted, STALLED with CLOSE_NOT_SENT with one. The close window expires: CLOSE_TIMEOUT
set, the records cleared, STALLED (R95, R100, R101, R105). -/
def Sys2Proof.Rules.WindowsExpire : Prop :=
  ∀ (n : SpurId) (start : Time) (length : Nat) (s : State),
    s.held = false → length ≤ elapsed start s.clock.now →
    let cleared := fun state : EngineState =>
      modifySpur n
        (fun sp => { sp with
          engine := { sp.engine with state := state, outstanding := none, burst := none, timer := none } }) s
    (s.spurs[n].engine.state = .awaitingResponse →
        s.spurs[n].engine.timer = some ⟨.responseWindow, start, length⟩ →
        exec (.responseWindowExpiry n) s = .next
          (if s.spurs[n].engine.burst = none then
            grantIfDue n (setSpurFlags n 0b00000000010 (cleared .idle))
          else setSpurFlags n 0b00010000010 (cleared .stalled)))
      ∧ (s.spurs[n].engine.state = .awaitingCloseAck →
        s.spurs[n].engine.timer = some ⟨.closeWindow, start, length⟩ →
        exec (.closeWindowExpiry n) s = .next (setSpurFlags n 0b01000000000 (cleared .stalled)))

/-- Conflicts and windows that end an exchange or a close as a failure. -/
def Obligations.EngineFailures : Prop :=
  Rules.ConflictsStopTransmissions ∧ Rules.WindowsExpire

/-- The burst gap expires in IN_BURST: BURST_TIMEOUT is set; with the burst's auto close on the engine goes to CLOSING
and sends the CLOSE, with it off the burst record clears and the engine goes to IDLE, where a waiting claim is granted;
no other flag is set (R95, R103, R104). -/
def Obligations.BurstGapExpires : Prop :=
  ∀ (n : SpurId) (b : Burst) (start : Time) (length : Nat) (s : State),
    s.held = false → s.spurs[n].engine.state = .inBurst → s.spurs[n].engine.burst = some b →
    s.spurs[n].engine.timer = some ⟨.burstGap, start, length⟩ → length ≤ elapsed start s.clock.now →
    exec (.burstGapExpiry n) s = .next
      (grantIfDue n
        (modifySpur n
          (fun sp =>
            if b.autoClose then
              { sp with
                rx := .own
                engine := { sp.engine with
                  state := .closing, timer := none
                  outstanding :=
                    some ⟨⟨b.station, station s, .close, false, false, b.channel, b.lastSequence, []⟩,
                      false, false⟩ } }
            else
              { sp with
                engine := { sp.engine with
                  state := .idle, outstanding := none, burst := none, timer := none } })
          (setSpurFlags n 0b00000100000 s)))

/-- A valid frame received while a response is awaited: a RESPONSE of a channel above 0 from the outstanding station
ends the exchange as a success and goes to admission with this spur as arrival spur; a stray or an unsolicited frame
sets its flag and the wait goes on (R37, R99; the order of the two consequences: log 15). -/
def Sys2Proof.Rules.ResponseAwaited : Prop :=
  ∀ (n : SpurId) (f : Frame) (c : Copy) (s : State),
    s.held = false → s.spurs[n].drive = true → s.spurs[n].rx = .waiting → f.payload.length ≤ 240 →
    s.spurs[n].engine.state = .awaitingResponse → s.spurs[n].engine.outstanding = some c →
    (f.kind = .response → f.channel ≠ 0 → f.source = c.frame.destination →
        exec (.spurReceptionEnd n f.symbols) s = .next (arriveUp n f (endSuccess n s)))
      ∧ (f.source ≠ c.frame.destination ∨ f.kind = .response ∧ f.channel = 0 →
        exec (.spurReceptionEnd n f.symbols) s = .next (setSpurFlags n 0b00000001000 s))
      ∧ (f.source = c.frame.destination → f.kind ≠ .response →
        exec (.spurReceptionEnd n f.symbols) s = .next (setSpurFlags n 0b00000010000 s))

/-- The symbols of a damaged reception of class CHECK: a wrong check, or a valid check over an unknown kind (R37). -/
def Sys2Proof.Rules.DamagedCheck (line : List Symbol) : Prop :=
  ∃ b : List Byte, b.length ≤ 248 ∧ (verdict b = .check ∨ verdict b = .unknownKind)
    ∧ line = .start :: b.map .data ++ [.stop]

/-- The symbols of a damaged reception of class END, and the receiver it leaves: a wrong byte count, a malformed
delimiter, an idle line or a 249th byte leave it WAITING; a start delimiter begins a new reception (R23, R36, R37). -/
def Sys2Proof.Rules.DamagedEnd (line : List Symbol) (rx : Receiver) : Prop :=
  ∃ (b : List Byte) (x : Symbol), b.length ≤ 248 ∧ line = .start :: b.map .data ++ [x]
    ∧ (rx = .waiting
        ∧ (x = .stop ∧ verdict b = .short ∨ x = .malformed ∨ x = .idle
          ∨ b.length = 248 ∧ ∃ y : Byte, x = .data y)
      ∨ rx = .collecting [] ∧ x = .start)

/-- A damaged reception, of either class, while a response is awaited fails the exchange with CHECK or END set, IDLE
without a burst, where a waiting claim is granted, and STALLED with CLOSE_NOT_SENT with one; while a CLOSE_ACK is
awaited it sets CLOSE_CHECK or CLOSE_END and the engine stalls. One ended by a start delimiter is of class END, and its
receiver is in the new reception as the engine judges it (R23, R36, R37, R95, R99, R101, R105). -/
def Sys2Proof.Rules.DamagedWhileAwaiting : Prop :=
  ∀ (n : SpurId) (line : List Symbol) (rx : Receiver) (c : Copy) (s : State),
    s.held = false → s.spurs[n].drive = true → s.spurs[n].rx = .waiting →
    s.spurs[n].engine.outstanding = some c →
    let cleared := fun (rx : Receiver) (state : EngineState) =>
      modifySpur n
        (fun sp => { sp with
          rx := rx
          engine := { sp.engine with state := state, outstanding := none, burst := none, timer := none } }) s
    let check := Rules.DamagedCheck line
    let ends := Rules.DamagedEnd line rx
    let answers := fun t : State => exec (.spurReceptionEnd n line) s = .next t
    (s.spurs[n].engine.state = .awaitingResponse → s.spurs[n].engine.burst = none →
        (check → answers (grantIfDue n (setSpurFlags n 0b00000000001 (cleared .waiting .idle))))
          ∧ (ends → answers (grantIfDue n (setSpurFlags n 0b00000000100 (cleared rx .idle)))))
      ∧ (s.spurs[n].engine.state = .awaitingResponse → s.spurs[n].engine.burst ≠ none →
        (check → answers (setSpurFlags n 0b00010000001 (cleared .waiting .stalled)))
          ∧ (ends → answers (setSpurFlags n 0b00010000100 (cleared rx .stalled))))
      ∧ (s.spurs[n].engine.state = .awaitingCloseAck →
        (check → answers (setSpurFlags n 0b00100000000 (cleared .waiting .stalled)))
          ∧ (ends → answers (setSpurFlags n 0b10000000000 (cleared rx .stalled))))

/-- A valid frame received while a CLOSE_ACK is awaited: the CLOSE_ACK from the burst's station clears the records and
the engine goes to IDLE, where a waiting claim is granted; a stray or an unsolicited frame sets its flag and the wait
goes on (R95, R105). -/
def Sys2Proof.Rules.CloseAckAwaited : Prop :=
  ∀ (n : SpurId) (f : Frame) (c : Copy) (s : State),
    s.held = false → s.spurs[n].drive = true → s.spurs[n].rx = .waiting → f.payload.length ≤ 240 →
    s.spurs[n].engine.state = .awaitingCloseAck → s.spurs[n].engine.outstanding = some c →
    (f.kind = .closeAck → f.source = c.frame.destination →
        exec (.spurReceptionEnd n f.symbols) s = .next
          (grantIfDue n
            (modifySpur n
              (fun sp => { sp with
                engine := { sp.engine with state := .idle, outstanding := none, burst := none, timer := none } })
              s)))
      ∧ (f.source ≠ c.frame.destination ∨ f.kind = .response ∧ f.channel = 0 →
        exec (.spurReceptionEnd n f.symbols) s = .next (setSpurFlags n 0b00000001000 s))
      ∧ (f.source = c.frame.destination → f.kind ≠ .closeAck → ¬(f.kind = .response ∧ f.channel = 0) →
        exec (.spurReceptionEnd n f.symbols) s = .next (setSpurFlags n 0b00000010000 s))

/-- How a reception is judged while a response or a CLOSE_ACK is awaited. -/
def Obligations.ReceptionsAwaited : Prop :=
  Rules.ResponseAwaited ∧ Rules.DamagedWhileAwaiting ∧ Rules.CloseAckAwaited

/-- In OFF, IDLE, IN_BURST and STALLED every reception but a valid RESPONSE of channel 0 sets UNSOLICITED, and that
one sets STRAY, there and while a response or a CLOSE_ACK is awaited; the engine's state, records and timer are
unchanged. A reception ended by a start delimiter is one of them, its receiver then in the new reception. With the drive
off, or the engine transmitting, the receiver delivers nothing (R23, R36, R110). -/
def Obligations.UnawaitedReception : Prop :=
  ∀ (n : SpurId) (b : List Byte) (s : State), s.held = false → b.length ≤ 248 →
    let quiet := s.spurs[n].engine.state = .off ∨ s.spurs[n].engine.state = .idle
      ∨ s.spurs[n].engine.state = .inBurst ∨ s.spurs[n].engine.state = .stalled
    let awaiting := (s.spurs[n].engine.state = .awaitingResponse
      ∨ s.spurs[n].engine.state = .awaitingCloseAck) ∧ s.spurs[n].engine.outstanding ≠ none
    (∀ f : Frame, s.spurs[n].drive = true → s.spurs[n].rx = .waiting → quiet ∨ awaiting →
        verdict b = .valid f → f.kind = .response → f.channel = 0 →
        exec (.spurReceptionEnd n (.start :: b.map .data ++ [.stop])) s
          = .next (setSpurFlags n 0b00000001000 s))
      ∧ (s.spurs[n].drive = true → s.spurs[n].rx = .waiting → quiet →
        (∀ f : Frame, verdict b = .valid f → f.kind ≠ .response ∨ f.channel ≠ 0) →
        exec (.spurReceptionEnd n (.start :: b.map .data ++ [.stop])) s
          = .next (setSpurFlags n 0b00000010000 s))
      ∧ (∀ (line : List Symbol) (rx : Receiver),
        s.spurs[n].drive = true → s.spurs[n].rx = .waiting → quiet → Rules.DamagedEnd line rx →
        exec (.spurReceptionEnd n line) s
          = .next (setSpurFlags n 0b00000010000 (modifySpur n (fun sp => { sp with rx := rx }) s)))
      ∧ ∀ line : List Symbol, s.spurs[n].drive = false ∨ s.spurs[n].rx = .own →
          exec (.spurReceptionEnd n line) s = .next s

/-- The states of an engine in an exchange or a burst (R107, R108). -/
def Sys2Proof.Rules.exchanging : List EngineState :=
  [.sending, .awaitingResponse, .inBurst, .closing, .awaitingCloseAck]

/-- A spur's queue emptied, each copy counted in SPUR_LOST (R78, R79). -/
def Sys2Proof.Rules.emptied (n : SpurId) (s : State) : State :=
  modifySpur n (fun sp => { sp with queue := [], lost := satAdd sp.lost sp.queue.length }) s

/-- An engine whose spur stops being engine-present: left OFF where it is OFF; else OFF with no transmission, record,
timer or claim, LOST set where an exchange or a burst was abandoned, and its line check aborted with CHECK_DONE and
CHECK_ERROR raised (R107, R112, R179). -/
def Sys2Proof.Rules.engineLost (n : SpurId) (s : State) : State :=
  let engine := s.spurs[n].engine
  if engine.state = .off then s
  else
    let off := modifySpur n
      (fun sp => { sp with
        rx := if sp.rx = .own then .waiting else sp.rx
        engine := ⟨.off, none, none, none, false⟩ }) s
    let lost := if engine.state ∈ Rules.exchanging then setSpurFlags n 0b00001000000 off else off
    if engine.state = .checking ∨ engine.claimWaiting = true then
      raise .checkError
        (raise .checkDone { lost with check := { lost.check with outcome := .aborted, expected := none } })
    else lost

/-- A change of one spur's presence or EARLY_LEAVE, and what a change of its engine-presence brings: lost, the engine
is lost and the queue emptied; gained, the engine is IDLE; PRESENCE_CHANGE is raised for either (R78, R93, R107). -/
def Sys2Proof.Rules.spurChanged (n : SpurId) (change : Spur → Spur) (s : State) : State :=
  let enginePresent := fun sp : Spur =>
    decide (sp.presence = .present ∨ sp.presence = .leaving ∧ sp.earlyLeave = false)
  let t := modifySpur n change s
  if enginePresent s.spurs[n] && !enginePresent (change s.spurs[n]) then
    raise .presenceChange (Rules.emptied n (Rules.engineLost n t))
  else if !enginePresent s.spurs[n] && enginePresent (change s.spurs[n]) then
    raise .presenceChange (modifySpur n (fun sp => { sp with engine := { sp.engine with state := .idle } }) t)
  else t

/-- A spur moves to a presence with its settle timer started or stopped; ABSENT empties its queue (R78, R91, R93). -/
def Sys2Proof.Rules.presenceMoved (n : SpurId) (presence : Presence) (timer : Option Time) (s : State) : State :=
  let t := Rules.spurChanged n (fun sp => { sp with presence := presence, settleTimer := timer }) s
  if presence = .absent then Rules.emptied n t else t

/-- The presence logic of a driven spur takes a change of its line-sense; with SETTLE 0 the timer expires in the event
that starts it (R91). -/
def Sys2Proof.Rules.senseTaken (n : SpurId) (level : Bool) (s : State) : State :=
  match s.spurs[n].presence, level with
  | .absent, true =>
    if s.spurs[n].settle = 0 then Rules.presenceMoved n .present none s
    else Rules.presenceMoved n .arriving (some s.clock.now) s
  | .arriving, false => Rules.presenceMoved n .absent none s
  | .present, false =>
    if s.spurs[n].settle = 0 then Rules.presenceMoved n .absent none s
    else Rules.presenceMoved n .leaving (some s.clock.now) s
  | .leaving, true => Rules.presenceMoved n .present none s
  | _, _ => s

/-- The presence logic takes the settle timer's expiry (R91). -/
def Sys2Proof.Rules.settleTaken (n : SpurId) (s : State) : State :=
  match s.spurs[n].presence with
  | .arriving => Rules.presenceMoved n .present none s
  | .leaving => Rules.presenceMoved n .absent none s
  | _ => s

/-- A line-sense level that changes is recorded, and moves a driven spur's presence and settle timer as the presence
logic gives, with SETTLE 0 passing on in the same event, and with what its engine-presence brings: a spur that goes to
LEAVING with EARLY_LEAVE set, or to ABSENT, loses its engine and its queue, one that comes to PRESENT from where it had
no engine gains it, PRESENCE_CHANGE with each; no other spur and no table changes (R78, R91, R93, R107, R179). -/
def Sys2Proof.Rules.LineSenseMovesPresence : Prop :=
  ∀ (n : SpurId) (level : Bool) (s : State),
    s.held = false → s.spurs[n].drive = true → inSet n s.pins.sense ≠ level →
    ∃ t, exec (.lineSenseChange n level) s = .next t
      ∧ t = Rules.senseTaken n level { s with pins := { s.pins with sense := t.pins.sense } }
      ∧ inSet n t.pins.sense = level
      ∧ (t.spurs[n].presence, t.spurs[n].settleTimer) =
          (match s.spurs[n].presence, level with
          | .absent, true =>
            if s.spurs[n].settle = 0 then (.present, none) else (.arriving, some s.clock.now)
          | .arriving, false => (.absent, none)
          | .present, false =>
            if s.spurs[n].settle = 0 then (.absent, none) else (.leaving, some s.clock.now)
          | .leaving, true => (.present, none)
          | p, _ => (p, s.spurs[n].settleTimer))
      ∧ (∀ m : SpurId, m ≠ n → t.spurs[m] = s.spurs[m] ∧ inSet m t.pins.sense = inSet m s.pins.sense)
      ∧ t.table = s.table ∧ t.trunk = s.trunk ∧ t.admission = s.admission ∧ t.hold = s.hold
      ∧ t.profiles = s.profiles ∧ t.retention = s.retention ∧ t.clock = s.clock ∧ t.watch = s.watch

/-- A line-sense level that changes on an undriven spur, or in a part held in reset, is recorded and ignored; a level
that is the pin's already is no change (R91, R193; log 19). -/
def Sys2Proof.Rules.LineSenseIgnored : Prop :=
  ∀ (n : SpurId) (level : Bool) (s : State),
    (inSet n s.pins.sense = level → exec (.lineSenseChange n level) s = .next s)
      ∧ (s.held = true ∨ s.spurs[n].drive = false →
        ∃ sense : SpurSet,
          exec (.lineSenseChange n level) s = .next { s with pins := { s.pins with sense := sense } }
            ∧ ∀ m : SpurId, inSet m sense = if m = n then level else inSet m s.pins.sense)

/-- The settle timer's expiry takes ARRIVING to PRESENT and LEAVING to ABSENT, with the timer stopped and the engine
gained or lost with engine-presence: lost, with LOST set where an exchange or a burst was abandoned, a line check
aborted, the queue counted in SPUR_LOST and PRESENCE_CHANGE raised (R78, R91, R93, R107, R179). -/
def Sys2Proof.Rules.SettleTimerExpires : Prop :=
  ∀ (n : SpurId) (start : Time) (s : State),
    s.held = false → s.spurs[n].settleTimer = some start →
    s.spurs[n].settle ≤ elapsed start s.clock.now →
    exec (.settleTimerExpiry n) s = .next (Rules.settleTaken n s)
      ∧ (s.spurs[n].presence = .arriving → s.spurs[n].engine.state = .off →
        exec (.settleTimerExpiry n) s = .next
          (raise .presenceChange
            (modifySpur n
              (fun sp => { sp with
                presence := .present, settleTimer := none
                engine := { sp.engine with state := .idle } }) s)))
      ∧ (s.spurs[n].presence = .leaving →
        ∃ t, exec (.settleTimerExpiry n) s = .next t
          ∧ t.spurs[n].presence = .absent ∧ t.spurs[n].settleTimer = none ∧ t.spurs[n].queue = []
          ∧ (s.spurs[n].earlyLeave = false → t.spurs[n].engine.state = .off))

/-- A spur in PRESENT whose sense drops with SETTLE 0 loses its engine: the records clear, LOST is set where an
exchange or a burst was abandoned, each copy in its queue is counted lost, and PRESENCE_CHANGE is raised (R78, R91,
R93, R107). -/
def Sys2Proof.Rules.LossOfEnginePresence : Prop :=
  ∀ (n : SpurId) (s : State),
    s.held = false → s.spurs[n].drive = true → s.spurs[n].presence = .present → s.spurs[n].settle = 0 →
    inSet n s.pins.sense = true → s.spurs[n].engine.state ≠ .off →
    ∃ t, exec (.lineSenseChange n false) s = .next t
      ∧ t.spurs[n].engine = ⟨.off, none, none, none, false⟩
      ∧ t.spurs[n].queue = []
      ∧ t.spurs[n].lost = satAdd s.spurs[n].lost s.spurs[n].queue.length
      ∧ t.spurs[n].errors.getLsbD 6 =
          (s.spurs[n].errors.getLsbD 6
            || decide (s.spurs[n].engine.state ∈
                [.sending, .awaitingResponse, .inBurst, .closing, .awaitingCloseAck]))
      ∧ t.agent.status.getLsbD 30 = (s.agent.status.getLsbD 30 || s.agent.record.getLsbD 30)
      ∧ (s.spurs[n].engine.state = .checking ∨ s.spurs[n].engine.claimWaiting = true →
          t.check = { s.check with outcome := .aborted, expected := none })

/-- One spur's drive computed anew. Equal to its drive, nothing changes. Going on, the receiver waits, and with the
sense present the spur is ARRIVING with its timer started, or with SETTLE 0 PRESENT with its engine IDLE and
PRESENCE_CHANGE raised. Going off, the spur is ABSENT with its engine OFF and its queue emptied once into SPUR_LOST;
LOST is set where an exchange or a burst was abandoned, a check on the spur is aborted with its events, and
PRESENCE_CHANGE is raised where the spur was engine-present (R78, R88, R89, R91, R93, R107, R112, R179). -/
def Sys2Proof.Rules.DriveEvaluated : Prop :=
  ∀ (n : SpurId) (s : State),
    let sp := s.spurs[n]
    let on := inSet n s.spurLines.driveMask
      && (sp.force || (sp.follow && (s.pins.gate != s.spurLines.gateInverted)))
    let t := evaluateDrive n s
    (sp.drive = on → t = s)
      ∧ (sp.drive = false → on = true → sp.presence = .absent →
        (inSet n s.pins.sense = false →
            t = modifySpur n (fun sp => { sp with drive := true, rx := .waiting }) s)
          ∧ (inSet n s.pins.sense = true → sp.settle ≠ 0 →
            t = modifySpur n
              (fun sp => { sp with
                drive := true, rx := .waiting, presence := .arriving, settleTimer := some s.clock.now }) s)
          ∧ (inSet n s.pins.sense = true → sp.settle = 0 →
            t = raise .presenceChange
              (modifySpur n
                (fun sp => { sp with
                  drive := true, rx := .waiting, presence := .present, settleTimer := none
                  engine := { sp.engine with state := .idle } }) s)))
      ∧ (sp.drive = true → on = false →
        let present := decide (sp.presence = .present ∨ sp.presence = .leaving ∧ sp.earlyLeave = false)
        let abandoned := decide (sp.engine.state ∈
          [.sending, .awaitingResponse, .inBurst, .closing, .awaitingCloseAck])
        let aborted := decide (sp.engine.state = .checking ∨ sp.engine.state ≠ .off ∧ sp.engine.claimWaiting = true)
        let flag := fun (k : Nat) (raised : Bool) =>
          t.agent.status.getLsbD k = (s.agent.status.getLsbD k || (raised && s.agent.record.getLsbD k))
        t.spurs = s.spurs.set n
            { sp with
              drive := false, rx := .waiting, presence := .absent, settleTimer := none, queue := []
              lost := satAdd sp.lost sp.queue.length
              errors := if abandoned then sp.errors ||| 0b00001000000 else sp.errors
              engine := if sp.engine.state = .off then sp.engine else ⟨.off, none, none, none, false⟩ }
          ∧ t.check = (if aborted then { s.check with outcome := .aborted, expected := none } else s.check)
          ∧ flag 30 present ∧ flag (24 + n.val) (abandoned && !sp.errors.getLsbD 6)
          ∧ flag 21 aborted ∧ flag 22 aborted
          ∧ { t with spurs := s.spurs, check := s.check, agent := s.agent, arbiter := s.arbiter } = s)

/-- The drive of every spur computed anew, one after the other (R89). -/
def Sys2Proof.Rules.reevaluated (s : State) : State :=
  ([0, 1, 2, 3, 4, 5] : List SpurId).foldl (fun u n => evaluateDrive n u) s

/-- A change of the SPUR_GATE level is recorded, and every spur's drive is then on exactly when the spur is in the
drive mask and is forced, or follows an active gate (R88, R89). -/
def Sys2Proof.Rules.GateChangeSetsDrives : Prop :=
  ∀ (level : Bool) (s : State), s.held = false →
    ∃ t, exec (.spurGateChange level) s = .next t
      ∧ t = Rules.reevaluated { s with pins := { s.pins with gate := level } }
      ∧ t.pins.gate = level ∧ t.spurLines = s.spurLines
      ∧ ∀ n : SpurId,
          t.spurs[n].drive =
              (inSet n s.spurLines.driveMask
                && (s.spurs[n].force || (s.spurs[n].follow && (level != s.spurLines.gateInverted))))
            ∧ (t.spurs[n].drive = false → s.spurs[n].drive = true →
                t.spurs[n].presence = .absent ∧ t.spurs[n].queue = [])
            ∧ (t.spurs[n].drive = s.spurs[n].drive → t.spurs[n] = s.spurs[n])

/-- The presence logic of a spur, the loss of its engine, a drive that goes on or off, and a change of the gate. -/
def Obligations.PresenceAndDrive : Prop :=
  Rules.LineSenseMovesPresence ∧ Rules.LineSenseIgnored ∧ Rules.SettleTimerExpires ∧ Rules.LossOfEnginePresence
    ∧ Rules.DriveEvaluated ∧ Rules.GateChangeSetsDrives

/-! ## Line checks -/

/-- CLAIM_GRANT is the grant that ends every event which brings an engine to IDLE or a claim to an IDLE engine; without
an IDLE engine or a waiting claim it changes nothing (R95, R174; log 1). -/
def Sys2Proof.Rules.GrantWhereDue : Prop :=
  ∀ (n : SpurId) (s : State),
    (s.held = false → exec (.claimGrant n) s = .next (grantIfDue n s))
      ∧ (s.spurs[n].engine.state ≠ .idle ∨ s.spurs[n].engine.claimWaiting = false → grantIfDue n s = s)

/-- An IDLE engine grants the claim that waits: the check is RUNNING, and the TEST frame of the next number is given
to the engine, counted as sent, kept as the expected echo with its addresses exchanged, and transmitted (R95, R109,
R174, R175). -/
def Sys2Proof.Rules.ClaimGrantStartsCheck : Prop :=
  ∀ (n : SpurId) (s : State),
    s.held = false → s.spurs[n].engine.state = .idle → s.spurs[n].engine.claimWaiting = true →
    s.check.number < s.check.count →
    let payload := (checkPayload s.check).1
    let f : Frame := ⟨s.check.station, station s, .test, false, true, 0, byteOf s.check.number, payload⟩
    ∃ t, exec (.claimGrant n) s = .next t
      ∧ t.check =
          { s.check with
            outcome := .running, sent := satInc s.check.sent, number := s.check.number + 1
            register := (checkPayload s.check).2
            expected := some { f with destination := station s, source := s.check.station } }
      ∧ t.spurs = s.spurs.set n
          { s.spurs[n] with
            rx := .own
            engine := { s.spurs[n].engine with
              state := .checking, claimWaiting := false, outstanding := some ⟨f, false, false⟩, timer := none } }
      ∧ { t with check := s.check, spurs := s.spurs } = s

/-- The PSEUDO register after a number of shifts. -/
def Sys2Proof.Rules.shifted : Nat → BitVec 9 → BitVec 9
  | 0, r => r
  | k + 1, r => Rules.shifted k (pseudoShift r)

/-- The payload of a TEST frame has the set length, and its bytes follow the pattern. Under PSEUDO they are the next
bits of output, most significant first, each bit 8 of the register before its shift, and the register is left after 8
shifts a byte; a shift moves every bit up and feeds bit 8 exclusive-or bit 4 back into bit 0. From the seed the first
two bytes are 0xFF and 0x83 and leave 0x1BE (R172). That the other patterns leave the register as it is, is the model's
choice (log 34). -/
def Obligations.TestPatterns : Prop :=
  (∀ c : LineCheck, (checkPayload c).1.length = c.length)
    ∧ (∀ (c : LineCheck) (i : Nat), i < c.length →
        (c.pattern = .zeros → (checkPayload c).1[i]? = some 0x00)
          ∧ (c.pattern = .ones → (checkPayload c).1[i]? = some 0xFF)
          ∧ (c.pattern = .alternate → (checkPayload c).1[i]? = some (if i % 2 = 0 then 0x55 else 0xAA))
          ∧ (c.pattern = .count → (checkPayload c).1[i]? = some (BitVec.ofNat 8 (c.number + i)))
          ∧ (c.pattern = .custom → (checkPayload c).1[i]? = c.custom.toList[i % 16]?)
          ∧ (c.pattern = .pseudo →
            ∃ b : Byte, (checkPayload c).1[i]? = some b
              ∧ ∀ k : Nat, k < 8 → b.getLsbD (7 - k) = (Rules.shifted (8 * i + k) c.register).getLsbD 8))
    ∧ (∀ c : LineCheck,
        (checkPayload c).2 = if c.pattern = .pseudo then Rules.shifted (8 * c.length) c.register else c.register)
    ∧ (∀ c : LineCheck, c.pattern = .pseudo → checkPayload c = pseudoPayload c.length c.register)
    ∧ (∀ r : BitVec 9,
        (pseudoShift r).getLsbD 0 = (r.getLsbD 8 != r.getLsbD 4)
          ∧ ∀ k : Nat, k < 8 → (pseudoShift r).getLsbD (k + 1) = r.getLsbD k)
    ∧ pseudoPayload 2 0x1FF = ([0xFF, 0x83], 0x1BE)

/-- A TEST frame's conflict counts mismatched and its echo window's expiry missing; while frames are left the next one
is given in the same event, and after the last the check is DONE and the engine IDLE, with CHECK_DONE raised and
CHECK_ERROR too when there was an error (R109, R175 to R177). -/
def Sys2Proof.Rules.TestFrameConcluded : Prop :=
  ∀ (n : SpurId) (s : State), s.held = false → s.spurs[n].engine.state = .checking →
    let missed := { s.check with missing := satInc s.check.missing, expected := none }
    let mismatched := { s.check with mismatched := satInc s.check.mismatched, expected := none }
    (s.spurs[n].rx = .own →
        exec (.testConflict n) s = .next
          (nextTest n (modifySpur n (fun sp => { sp with rx := .waiting }) { s with check := mismatched })))
      ∧ ∀ (start : Time) (length : Nat),
          s.spurs[n].engine.timer = some ⟨.responseWindow, start, length⟩ →
          length ≤ elapsed start s.clock.now →
          exec (.echoWindowExpiry n) s = .next (nextTest n { s with check := missed })
            ∧ (s.check.count ≤ s.check.number →
                ∃ t, exec (.echoWindowExpiry n) s = .next t
                  ∧ t.check = { missed with outcome := .done }
                  ∧ t.spurs[n].engine.state = .idle ∧ t.spurs[n].errors = s.spurs[n].errors
                  ∧ t.agent.status.getLsbD 21 = (s.agent.status.getLsbD 21 || s.agent.record.getLsbD 21)
                  ∧ t.agent.status.getLsbD 22 = (s.agent.status.getLsbD 22 || s.agent.record.getLsbD 22))

/-- After a conclusion, with the frame number below the frame count, the next TEST is given: sent and the number
advance, and the frame becomes the expected echo and goes out. With no frame left the check is DONE, CHECK_DONE is
raised, CHECK_ERROR too when mismatched or missing is above 0, and the engine is IDLE (R175, R177). -/
def Sys2Proof.Rules.NextTestOrFinish : Prop :=
  ∀ (n : SpurId) (s : State),
    let payload := (checkPayload s.check).1
    let f : Frame := ⟨s.check.station, station s, .test, false, true, 0, byteOf s.check.number, payload⟩
    let done := raise .checkDone { s with check := { s.check with outcome := .done, expected := none } }
    (s.check.number < s.check.count →
        nextTest n s =
          modifySpur n
            (fun sp => { sp with
              rx := .own
              engine := { sp.engine with
                state := .checking, outstanding := some ⟨f, false, false⟩, timer := none } })
            { s with check := { s.check with
                sent := satInc s.check.sent, number := s.check.number + 1
                register := (checkPayload s.check).2
                expected := some { f with destination := station s, source := s.check.station } } })
      ∧ (s.check.count ≤ s.check.number →
        nextTest n s =
          modifySpur n
            (fun sp => { sp with
              engine := { sp.engine with state := .idle, outstanding := none, timer := none } })
            (if s.check.mismatched = 0 ∧ s.check.missing = 0 then done else raise .checkError done))

/-- A reception while an echo is awaited: the frame equal to the expected echo is good, any other valid frame from the
echo station and every damaged reception, one ended by a start delimiter included, counts mismatched, each concluding
the TEST; a valid frame from another source sets STRAY and the wait goes on (R23, R36, R109, R176). -/
def Sys2Proof.Rules.EchoJudged : Prop :=
  ∀ (n : SpurId) (c : Copy) (timer : EngineTimer) (s : State),
    s.held = false → s.spurs[n].drive = true → s.spurs[n].rx = .waiting →
    s.spurs[n].engine.state = .checking → s.spurs[n].engine.outstanding = some c →
    s.spurs[n].engine.timer = some timer →
    let good := { s.check with expected := none }
    let mismatched := { s.check with mismatched := satInc s.check.mismatched, expected := none }
    (∀ f : Frame, f.payload.length ≤ 240 →
        (f.source = c.frame.destination →
            exec (.spurReceptionEnd n f.symbols) s = .next
              (nextTest n { s with check := if s.check.expected = some f then good else mismatched }))
          ∧ (f.source ≠ c.frame.destination →
            exec (.spurReceptionEnd n f.symbols) s = .next (setSpurFlags n 0b00000001000 s)))
      ∧ ∀ (line : List Symbol) (rx : Receiver),
          Rules.DamagedCheck line ∧ rx = .waiting ∨ Rules.DamagedEnd line rx →
          exec (.spurReceptionEnd n line) s = .next
            (nextTest n (modifySpur n (fun sp => { sp with rx := rx }) { s with check := mismatched }))

/-- A line check from its grant to its end. -/
def Obligations.LineCheckRuns : Prop :=
  Rules.GrantWhereDue ∧ Rules.ClaimGrantStartsCheck ∧ Rules.NextTestOrFinish ∧ Rules.TestFrameConcluded
    ∧ Rules.EchoJudged

/-! ## Field time and the silence watch -/

/-- An edge of the WAKE pin to its active level makes a capture, raises WAKE_PIN and makes a request to WAKE_TARGET;
any other change of its level is recorded and does nothing (R160, R164). -/
def Sys2Proof.Rules.WakePinEdgeRequests : Prop :=
  ∀ (level : Bool) (s : State), s.held = false →
    let t := { s with pins := { s.pins with wake := level } }
    exec (.wakePinEdge level) s =
      if level = !s.clock.wakeActiveLow ∧ s.pins.wake = s.clock.wakeActiveLow then
        .next (takeRequest ⟨.wakePin, s.profiles.wakeTarget⟩
          (raise .wakePin
            { t with clock := { s.clock with
                previous := s.clock.current, current := ⟨s.clock.now, .wakePin⟩ } })).1
      else .next t

/-- An armed compare whose target field time has reached disarms, raises WAKE_TIME and makes a request to WAKE_TARGET;
otherwise it does not fire (R163). -/
def Sys2Proof.Rules.WakeCompareFires : Prop :=
  ∀ s : State, s.held = false →
    exec .wakeCompareFire s =
      if s.clock.compareArmed = true ∧ s.clock.compareTarget.toNat ≤ s.clock.now.toNat then
        .next (takeRequest ⟨.wakeTime, s.profiles.wakeTarget⟩
          (raise .wakeTime { s with clock := { s.clock with compareArmed := false } })).1
      else .next s

/-- Field time passes from 2^40 - 1 to 0 with TIME_WRAP raised and nothing else changed; an armed compare, whose target
is reached by then whatever it is, fires first, before the wrap carries field time below it. At any other field time the
command changes nothing (R158, R163; log 20). -/
def Sys2Proof.Rules.TimeWrapsToZero : Prop :=
  ∀ s : State, s.held = false →
    let wrapped := fun t : State => raise .timeWrap { t with clock := { t.clock with now := 0 } }
    (s.clock.now = 0xFFFFFFFFFF → s.clock.compareArmed = false → exec .timeWrap s = .next (wrapped s))
      ∧ (s.clock.now = 0xFFFFFFFFFF → s.clock.compareArmed = true →
        exec .timeWrap s = .next
          (wrapped (takeRequest ⟨.wakeTime, s.profiles.wakeTarget⟩
            (raise .wakeTime { s with clock := { s.clock with compareArmed := false } })).1))
      ∧ (s.clock.now ≠ 0xFFFFFFFFFF → exec .timeWrap s = .next s)

/-- The WAKE pin, the wake compare and the wrap of field time. -/
def Obligations.FieldTimeEvents : Prop :=
  Rules.WakePinEdgeRequests ∧ Rules.WakeCompareFires ∧ Rules.TimeWrapsToZero

/-- The quiet threshold expires in COUNTING: a capture and TRUNK_QUIET, then QUIET with the quiet time in STAGED, or
in DIRECT TRUNK_ACTION and the action, a RESET among them, with the stage DONE (R165, R167, R168). In DIRECT the quiet
time stays as it was, which is the model's choice (log 21); the order of stage and action is log 14. -/
def Sys2Proof.Rules.QuietThresholdExpires : Prop :=
  ∀ s : State,
    s.held = false → s.watch.stage = .counting →
    s.watch.quietThreshold ≤ elapsed s.watch.episodeStart s.clock.now →
    let quiet := raise .trunkQuiet
      { s with clock := { s.clock with previous := s.clock.current, current := ⟨s.clock.now, .trunkQuiet⟩ } }
    (s.watch.direct = false →
        exec .quietThresholdExpiry s = .next
          { quiet with watch := { s.watch with stage := .quiet, quietTime := s.clock.now } })
      ∧ (s.watch.direct = true → s.watch.action = .none →
        exec .quietThresholdExpiry s = .next
          { raise .trunkAction quiet with watch := { s.watch with stage := .done } })
      ∧ (s.watch.direct = true → s.watch.action = .fallback →
        exec .quietThresholdExpiry s = .next
          (takeRequest ⟨.trunkWatch, s.watch.fallback⟩
            { raise .trunkAction quiet with watch := { s.watch with stage := .done } }).1)
      ∧ (s.watch.direct = true → s.watch.action = .reset →
        exec .quietThresholdExpiry s = .next
          (ownReset { raise .trunkAction quiet with watch := { s.watch with stage := .done } }))

/-- The action threshold expires in QUIET, in STAGED mode: TRUNK_ACTION, the stage DONE, and the action NONE, a
FALLBACK request or a RESET (R167, R168; log 14). -/
def Sys2Proof.Rules.ActionThresholdExpires : Prop :=
  ∀ s : State,
    s.held = false → s.watch.direct = false → s.watch.stage = .quiet →
    s.watch.actionThreshold ≤ elapsed s.watch.quietTime s.clock.now →
    let acted := { raise .trunkAction s with watch := { s.watch with stage := .done } }
    (s.watch.action = .none → exec .actionThresholdExpiry s = .next acted)
      ∧ (s.watch.action = .fallback →
        exec .actionThresholdExpiry s = .next (takeRequest ⟨.trunkWatch, s.watch.fallback⟩ acted).1)
      ∧ (s.watch.action = .reset → exec .actionThresholdExpiry s = .next (ownReset acted))

/-- The two thresholds of the silence watch; what RESET does is in `WarmResetCauses`. -/
def Obligations.SilenceWatchThresholds : Prop :=
  Rules.QuietThresholdExpires ∧ Rules.ActionThresholdExpires

/-! ## Profiles -/

/-- The three refusal checks: HOLD_HIGH when the record names a mark and the occupancy is at or above its level;
CHECK_RUNNING when a check waits or runs on a spur that is driven and outside the target's mask; MALFORMED_LIST when the
target is NIGHT and the record's save list is malformed (R126, R127). -/
def Sys2Proof.Rules.RefusalChecks : Prop :=
  ∀ (target : Profile) (r : TransitionRecord) (s : State),
    (holdHigh r s = true ↔
        ∃ m : Fin 4, r.refusalMark = some m ∧ s.hold.marks[m] ≤ s.hold.records.length)
      ∧ (checkRunning target s = true ↔
        (s.check.outcome = .waiting ∨ s.check.outcome = .running)
          ∧ s.spurs[s.check.target].drive = true
          ∧ inSet s.check.target (profileRecord target s).driveMask = false)
      ∧ (malformedList target r s = true ↔
        target = .night ∧ ∃ head : Fin 4, r.saveList = some head ∧ walkOrder head s = none)

/-- The descriptors that a list reaches, from a head or a next field to its END (R127, R143). -/
def Sys2Proof.Rules.Reaches (pool : Vector (Option Descriptor) 16) : Option (Fin 16) → List Descriptor → Prop
  | none, [] => True
  | some d, x :: rest => pool[d] = some x ∧ Rules.Reaches pool x.next rest
  | _, _ => False

/-- A list has a walk order exactly when it reaches END after at most 16 descriptors, none empty and none running beyond
index 127; the walk order is then their ranges one after the other, each from its first index upward (R127, R142,
R145). -/
def Sys2Proof.Rules.WalkOrderOfList : Prop :=
  ∀ (head : Fin 4) (walk : List Position) (s : State),
    walkOrder head s = some walk ↔
      ∃ ds : List Descriptor, ds.length ≤ 16
        ∧ Rules.Reaches s.retention.descriptors s.retention.heads[head] ds
        ∧ (∀ d ∈ ds, d.first.val + d.count - 1 ≤ 127)
        ∧ walk.map Fin.val = ds.flatMap fun d => (List.range d.count).map fun k => d.first.val + k

/-- A request taken with no transition in flight: absorbed when its target is the applied profile; refused with
NOT_PERMITTED, and when it ranks lower with HOLD_HIGH, CHECK_RUNNING or MALFORMED_LIST, in that order; otherwise the
transition starts. A dormancy target ranks below the applied profile, so that a DORMANCY request is never absorbed
(R125 to R128). -/
def Sys2Proof.Rules.RequestDecided : Prop :=
  (∀ (q : ProfileRequest) (s : State), s.profiles.transition = none →
    let c := s.profiles.applied
    let r := transitionRecord c q.target s
    let down : Prop := q.target.code < c.code
    let refused := fun cause : Cause =>
      (raise .transitionRefused
        { s with profiles := { s.profiles with
            lastRefusal := some ⟨q.source, q.target, cause, s.clock.now⟩ } }, Status.refused cause)
    takeRequest q s =
      if q.target = c then (s, .ok)
      else if r.permitted = false then refused .notPermitted
      else if down ∧ holdHigh r s = true then refused .holdHigh
      else if down ∧ checkRunning q.target s = true then refused .checkRunning
      else if down ∧ malformedList q.target r s = true then refused .malformedList
      else (startTransition c q.target s, .ok))
    ∧ ∀ s : State, SettingsLaw s → s.profiles.applied ≠ .night →
        (profileRecord s.profiles.applied s).target.code < s.profiles.applied.code

/-- A request taken with no transition in flight, and the checks that refuse it. -/
def Obligations.RequestAtRest : Prop :=
  Rules.RequestDecided ∧ Rules.RefusalChecks ∧ Rules.WalkOrderOfList

/-- A request taken with a transition in flight becomes the pending request exactly when it ranks above the
transition's target and above any pending request; otherwise it is dropped and nothing changes (R130). -/
def Sys2Proof.Rules.RequestInFlight : Prop :=
  ∀ (q : ProfileRequest) (t : Transition) (s : State), s.profiles.transition = some t →
    takeRequest q s =
      if t.target.code < q.target.code
          ∧ (∀ p : ProfileRequest, s.profiles.request = some p → p.target.code < q.target.code) then
        ({ s with profiles := { s.profiles with request := some q } }, .pending)
      else (s, .busy)

/-- The state after END of a transition: it leaves flight, TRANSITION_END is raised and captured, the Hold Queue is
released under its hold policy, and the dormancy timer restarts; a pending request is then cleared and taken as a new
request, with its source kept (R66, R140; log 26). -/
def Sys2Proof.Rules.afterEnd (x : Transition) (s : State) : State :=
  let t := release (transitionRecord x.source x.target s).discard
    (raise .transitionEnd
      { s with
        profiles := { s.profiles with transition := none }
        clock := { s.clock with previous := s.clock.current, current := ⟨s.clock.now, .transitionEnd⟩ } })
  match s.profiles.request with
  | none => { t with profiles := { t.profiles with dormancy := some s.clock.now } }
  | some q =>
    (takeRequest q { t with profiles := { t.profiles with dormancy := some s.clock.now, request := none } }).1

/-- What follows the last phase before SETTLE: SETTLE with its timer started where the settle wait is above 0, else
END in the same event (R133, R139, R140). -/
def Sys2Proof.Rules.settledOrEnded (x : Transition) (s : State) : State :=
  if (transitionRecord x.source x.target s).settleWait ≠ 0 then
    { s with profiles := { s.profiles with
        transition := some { x with phase := .settle, timer := some s.clock.now } } }
  else Rules.afterEnd x s

/-- What APPLY leaves of a state: the target is the applied and the admission profile, its drive mask is latched and
every drive computed anew; out of NIGHT the Context Store is powered up FRESH, to NIGHT it is powered down. Out of NIGHT
with restore RESTORE follows where a slot is valid; without, the directory is cleared. In every other case SETTLE or END
follows, the walk over an empty directory setting RESTORE_SKIP_COUNT to 0 (R133, R137 to R140, R154 to R156). -/
def Sys2Proof.Rules.Applied (x : Transition) (s t : State) : Prop :=
  let restores := decide (x.source = .night) && (transitionRecord x.source x.target s).restore
  let driven := Rules.reevaluated
    { s with
      profiles := { s.profiles with applied := x.target, admission := x.target }
      spurLines := { s.spurLines with driveMask := (profileRecord x.target s).driveMask } }
  let u :=
    { driven with
      admission := { s.admission with
        store :=
          if x.source = .night then some (Vector.ofFn fun i : Position => freshContext s.table[i] s.clock.now)
          else if x.target = .night then none
          else s.admission.store }
      retention :=
        if restores then
          { s.retention with
            restoreNext := 0, restoreSkipped := 0
            skipCount := if s.retention.slots = [] then 0 else s.retention.skipCount }
        else if x.source = .night then { s.retention with slots := [] }
        else s.retention }
  (∀ n : SpurId, u.spurs[n].drive = computedDrive n u)
    ∧ t =
      if restores = true ∧ s.retention.slots ≠ [] then
        { u with profiles := { u.profiles with transition := some { x with phase := .restore, timer := none } } }
      else Rules.settledOrEnded x u

/-- What follows DRAIN, or a start without it: where no SAVE is to run, APPLY; to NIGHT with a save list, the admission
profile becomes NIGHT, the directory and SAVE_LOST are cleared, and the walk stands at the first position, an empty list
going on to APPLY in the same event (R133, R136, R148). -/
def Sys2Proof.Rules.AfterDrain (x : Transition) (s t : State) : Prop :=
  let list := (transitionRecord x.source x.target s).saveList
  (x.target ≠ .night ∨ list = none → Rules.Applied x s t)
    ∧ ∀ (head : Fin 4) (walk : List Position),
        x.target = .night → list = some head → walkOrder head s = some walk →
        let saving :=
          { s with
            profiles := { s.profiles with admission := .night }
            retention := { s.retention with slots := [], saveLost := 0, saveRest := walk } }
        (walk = [] → Rules.Applied x saving t)
          ∧ (walk ≠ [] →
            t = { saving with profiles := { saving.profiles with
              transition := some { x with phase := .save, timer := none } } })

/-- The drain limit's effects: DRAIN_EXPIRED is raised, and each closing spur's queue is emptied into SPUR_LOST and its
engine, where it is in an exchange or a burst, stopped with LOST set, IDLE then granting a waiting claim (R78, R95,
R108, R112, R135). -/
def Sys2Proof.Rules.drainStopped (closing : SpurSet) (s : State) : State :=
  ([0, 1, 2, 3, 4, 5] : List SpurId).foldl
    (fun u n =>
      let emptied :=
        modifySpur n (fun sp => { sp with queue := [], lost := satAdd sp.lost sp.queue.length }) u
      if inSet n closing = false then u
      else if u.spurs[n].engine.state ∈ Rules.exchanging then
        grantIfDue n
          (setSpurFlags n 0b00001000000
            (modifySpur n
              (fun sp => { sp with
                rx := if sp.rx = .own then .waiting else sp.rx
                engine := { sp.engine with state := .idle, outstanding := none, burst := none, timer := none } })
              emptied))
      else emptied)
    (raise .drainExpired s)

/-- A start whose DRAIN ends in the event: with no closing spur, or with every closing spur drained, whatever the drain
limit; or with a drain limit of 0, with that limit's effects. TRANSITION_START is raised and captured, and what follows
DRAIN follows: SAVE, an empty save list going on to APPLY; or APPLY, then RESTORE, SETTLE, or with a settle wait of 0
END. No request is pending at a start that passes on to END, as no transition was in flight (R129, R133 to R140; the
order at END: log 26). -/
def Sys2Proof.Rules.StartWithoutDrain : Prop :=
  ∀ (c p : Profile) (s : State),
    let r := transitionRecord c p s
    let closing := fun n : SpurId => s.spurs[n].drive && !inSet n (profileRecord p s).driveMask
    let drained := ∀ n : SpurId, closing n = true → Rules.Drained s.spurs[n]
    r.settleWait ≠ 0 ∨ s.profiles.request = none →
    ∃ x : Transition, x.source = c ∧ x.target = p ∧ (∀ n : SpurId, inSet n x.closing = closing n)
      ∧ let started := raise .transitionStart
          { s with
            profiles := { s.profiles with transition := some x }
            clock := { s.clock with
              previous := s.clock.current, current := ⟨s.clock.now, .transitionStart⟩ } }
        (drained → Rules.AfterDrain x started (startTransition c p s))
          ∧ (¬drained → r.drainLimit = 0 →
            Rules.AfterDrain x (Rules.drainStopped x.closing started) (startTransition c p s))

/-- A transition starts: with a closing spur that is not drained and a drain limit above 0 it rests in DRAIN with the
drain timer started; TRANSITION_START is raised and captured, the closing spurs are the driven spurs outside the
target's mask, and no profile changes yet (R129, R134). -/
def Sys2Proof.Rules.TransitionStarts : Prop :=
  ∀ (c p : Profile) (s : State),
    (∃ n : SpurId,
        s.spurs[n].drive = true ∧ inSet n (profileRecord p s).driveMask = false ∧ s.spurs[n].drained = false) →
    (transitionRecord c p s).drainLimit ≠ 0 →
    ∃ t : Transition,
      startTransition c p s =
          raise .transitionStart
            { s with
              profiles := { s.profiles with transition := some t }
              clock := { s.clock with
                previous := s.clock.current, current := ⟨s.clock.now, .transitionStart⟩ } }
        ∧ t.source = c ∧ t.target = p ∧ t.phase = .drain ∧ t.timer = some s.clock.now
        ∧ ∀ n : SpurId,
            inSet n t.closing = (s.spurs[n].drive && !inSet n (profileRecord p s).driveMask)

/-- The dormancy timer's expiry stops it and makes a request with source DORMANCY to the dormancy target of the
applied profile's record; while a transition is in flight, and with a timeout of 0, it does not expire (R132). -/
def Sys2Proof.Rules.DormancyExpires : Prop :=
  ∀ s : State, s.held = false →
    let r := profileRecord s.profiles.applied s
    (∀ start : Time,
        s.profiles.transition = none → s.profiles.dormancy = some start → r.timeout ≠ 0 →
        r.timeout ≤ elapsed start s.clock.now →
        exec .dormancyExpiry s = .next
          (takeRequest ⟨.dormancy, r.target⟩ { s with profiles := { s.profiles with dormancy := none } }).1)
      ∧ (s.profiles.transition ≠ none ∨ r.timeout = 0 → exec .dormancyExpiry s = .next s)

/-- A request met by a transition in flight, the start of a transition, and the dormancy timer's request. -/
def Obligations.RequestsAndStartOfTransition : Prop :=
  Rules.RequestInFlight ∧ Rules.TransitionStarts ∧ Rules.StartWithoutDrain ∧ Rules.DormancyExpires

/-- DRAIN ends as the last closing spur drains, and not before; at the drain limit it ends with the limit's effects;
what follows DRAIN follows in the same event, for every source, target and settle wait: SAVE, an empty save list going
on to APPLY; or APPLY, then RESTORE, SETTLE, or with a settle wait of 0 END with the pending request taken (R133 to
R140, R148; the order at END: log 26). -/
def Sys2Proof.Rules.DrainGoesOn : Prop :=
  ∀ (x : Transition) (s : State),
    s.held = false → s.profiles.transition = some x → x.phase = .drain →
    let drained := ∀ n : SpurId, inSet n x.closing = true → Rules.Drained s.spurs[n]
    (drained → ∃ t, exec .drainComplete s = .next t ∧ Rules.AfterDrain x s t)
      ∧ (¬drained → exec .drainComplete s = .next s)
      ∧ ∀ start : Time,
          x.timer = some start →
          (transitionRecord x.source x.target s).drainLimit ≤ elapsed start s.clock.now →
          ∃ t, exec .drainLimitExpiry s = .next t ∧ Rules.AfterDrain x (Rules.drainStopped x.closing s) t

/-- At the drain limit, where END does not come in the same event, DRAIN_EXPIRED is recorded, and every closing spur has
each copy of its queue counted in SPUR_LOST, its queue empty, no exchange or burst, and LOST set where one was stopped
(R78, R108, R112, R135). -/
def Sys2Proof.Rules.DrainLimitEffects : Prop :=
  ∀ (x : Transition) (start : Time) (s : State),
    s.held = false → s.profiles.transition = some x → x.phase = .drain → x.timer = some start →
    let r := transitionRecord x.source x.target s
    r.drainLimit ≤ elapsed start s.clock.now →
    r.settleWait ≠ 0 ∨ x.target = .night ∧ (∃ (head : Fin 4) (walk : List Position),
      r.saveList = some head ∧ walkOrder head s = some walk ∧ walk ≠ []) →
    ∃ t, exec .drainLimitExpiry s = .next t
      ∧ t.agent.status.getLsbD 4 = (s.agent.status.getLsbD 4 || s.agent.record.getLsbD 4)
      ∧ ∀ n : SpurId, inSet n x.closing = true →
          t.spurs[n].queue = [] ∧ t.spurs[n].lost = satAdd s.spurs[n].lost s.spurs[n].queue.length
            ∧ t.spurs[n].engine.state ∉ Rules.exchanging
            ∧ t.spurs[n].errors.getLsbD 6 =
                (s.spurs[n].errors.getLsbD 6 || decide (s.spurs[n].engine.state ∈ Rules.exchanging))

/-- The end of DRAIN, and what its limit does to the closing spurs. -/
def Obligations.DrainEnds : Prop :=
  Rules.DrainGoesOn ∧ Rules.DrainLimitEffects

/-- One step of the save walk short of the last position: a position that is valid, LIVE and in no slot is copied
whole into the lowest free slot; any other is passed over; nothing else changes (R149). -/
def Sys2Proof.Rules.SaveStepCopiesOrPasses : Prop :=
  ∀ (i j : Position) (rest : List Position) (s : State),
    s.held = false → phase s = some .save → s.retention.saveRest = i :: j :: rest →
    (∀ (e : Entry) (v : Vector Context 128),
        s.table[i] = some e → s.admission.store = some v → v[i].live = true → slotOf i s = none →
        s.retention.slots.length < 32 →
        exec .saveWalkStep s = .next
          { s with retention := { s.retention with
              slots := s.retention.slots ++ [⟨i, v[i], false⟩], saveRest := j :: rest } })
      ∧ (s.table[i] = none ∨ (∀ v : Vector Context 128, s.admission.store = some v → v[i].live = false)
            ∨ slotOf i s ≠ none →
        exec .saveWalkStep s = .next
          { s with retention := { s.retention with saveRest := j :: rest } })

/-- A step that finds 32 valid slots ends the walk: SAVE_OVERFLOW is raised, every position left that would be copied
is counted once in SAVE_LOST, and APPLY follows in the same event with the directory as it stands, then SETTLE or END
(R137, R139, R140, R150; the order at END: log 26). -/
def Sys2Proof.Rules.SaveWalkExhausted : Prop :=
  ∀ (x : Transition) (i : Position) (rest : List Position) (s : State),
    s.held = false → s.profiles.transition = some x → x.phase = .save → s.retention.saveRest = i :: rest →
    copyable i s = true → 32 ≤ s.retention.slots.length →
    ∃ t, exec .saveWalkStep s = .next t
      ∧ Rules.Applied x
          (raise .saveOverflow
            { s with retention := { s.retention with
                saveLost :=
                  satAdd s.retention.saveLost ((i :: rest).filter fun j => copyable j s).eraseDups.length
                saveRest := [] } }) t

/-- The step of the last position ends the walk, not exhausted: it copies the position or passes it over as any other
step does, SAVE_LOST stays and no SAVE_OVERFLOW is raised, and APPLY follows in the same event with the directory as the
walk left it, then SETTLE or END (R137, R139, R140, R149 to R151; the order at END: log 26). -/
def Sys2Proof.Rules.SaveWalkCompletes : Prop :=
  ∀ (x : Transition) (i : Position) (s : State),
    s.held = false → s.profiles.transition = some x → x.phase = .save → s.retention.saveRest = [i] →
    let ended := fun slots : List Slot =>
      ∃ t, exec .saveWalkStep s = .next t
        ∧ Rules.Applied x { s with retention := { s.retention with slots := slots, saveRest := [] } } t
    (∀ (e : Entry) (v : Vector Context 128),
        s.table[i] = some e → s.admission.store = some v → v[i].live = true → slotOf i s = none →
        s.retention.slots.length < 32 → ended (s.retention.slots ++ [⟨i, v[i], false⟩]))
      ∧ (s.table[i] = none ∨ (∀ v : Vector Context 128, s.admission.store = some v → v[i].live = false)
            ∨ slotOf i s ≠ none →
        ended s.retention.slots)

/-- The steps of the save walk. -/
def Obligations.SaveWalk : Prop :=
  Rules.SaveStepCopiesOrPasses ∧ Rules.SaveWalkCompletes ∧ Rules.SaveWalkExhausted

/-- One step of the restore walk short of the last slot: the context copy is written into the Context Store as LIVE,
or a superseded slot is skipped and counted; nothing else changes (R154). -/
def Sys2Proof.Rules.RestoreStepCopiesOrSkips : Prop :=
  ∀ (x : Slot) (v : Vector Context 128) (s : State),
    s.held = false → phase s = some .restore → s.admission.store = some v →
    s.retention.slots[s.retention.restoreNext]? = some x →
    s.retention.restoreNext + 1 < s.retention.slots.length →
    (x.superseded = false →
        exec .restoreWalkStep s = .next
          { s with
            admission := { s.admission with store := some (v.set x.index { x.context with live := true }) }
            retention := { s.retention with restoreNext := s.retention.restoreNext + 1 } })
      ∧ (x.superseded = true →
        exec .restoreWalkStep s = .next
          { s with retention := { s.retention with
              restoreNext := s.retention.restoreNext + 1
              restoreSkipped := s.retention.restoreSkipped + 1 } })

/-- The step of the last slot writes its context copy into the Context Store as LIVE, or skips it superseded, and ends
RESTORE: RESTORE_SKIP_COUNT takes the number skipped, RESTORE_SKIPPED is raised when it is above 0, the directory is
cleared, and SETTLE or END follows in the same event (R133, R138 to R140, R154, R155; the order at END: log 26). -/
def Sys2Proof.Rules.RestoreWalkEnds : Prop :=
  ∀ (x : Transition) (y : Slot) (s : State),
    s.held = false → s.profiles.transition = some x → x.phase = .restore →
    s.retention.slots[s.retention.restoreNext]? = some y →
    s.retention.restoreNext + 1 = s.retention.slots.length →
    let skipped := s.retention.restoreSkipped + (if y.superseded then 1 else 0)
    let restored :=
      { s with
        admission := { s.admission with
          store :=
            if y.superseded then s.admission.store
            else s.admission.store.map fun v => v.set y.index { y.context with live := true } }
        retention := { s.retention with
          slots := [], restoreNext := s.retention.restoreNext + 1, restoreSkipped := skipped
          skipCount := skipped } }
    exec .restoreWalkStep s = .next
      (Rules.settledOrEnded x (if 0 < skipped then raise .restoreSkipped restored else restored))

/-- The steps of the restore walk. -/
def Obligations.RestoreWalk : Prop :=
  Rules.RestoreStepCopiesOrSkips ∧ Rules.RestoreWalkEnds

/-- The settle wait elapses: the transition reaches END, whose four steps follow in one event: it leaves flight with
TRANSITION_END raised and captured, the Hold Queue is released under its hold policy, as `HoldQueueExpiryAndRelease`
gives, the dormancy timer restarts, and a pending request is cleared and taken as a new request (R66, R139, R140; log
26). Before it has elapsed nothing changes. -/
def Obligations.SettleWaitEndsTransition : Prop :=
  ∀ (x : Transition) (start : Time) (s : State),
    s.held = false → s.profiles.transition = some x → x.phase = .settle → x.timer = some start →
    let wait := (transitionRecord x.source x.target s).settleWait
    (wait ≤ elapsed start s.clock.now → exec .settleWaitExpiry s = .next (Rules.afterEnd x s))
      ∧ (elapsed start s.clock.now < wait → exec .settleWaitExpiry s = .next s)

/-! ## Management: every operation -/

/-- Every execution takes the request from the head of the queue and appends exactly one response, whose destination
is the request's source, whose source is the station address then, and whose payload is the operation, the tag and the
status; field time, the pins, the transmitter and the free values stay. The two threshold writes that can bring a warm
reset are left out (log 13). -/
def Obligations.EveryRequestIsAnsweredOnce : Prop :=
  ∀ (c : Instr) (rq : Request) (s : State),
    Executes c rq s → c ≠ .writeQuietThreshold rq → c ≠ .writeActionThreshold rq →
    ∃ (t : State) (status : Status) (result : List Byte), exec c s = .next t
      ∧ t.arbiter.responses =
          s.arbiter.responses
            ++ [⟨rq.source, station t, rq.operation :: rq.tag :: (status.bytes ++ result)⟩]
      ∧ t.agent.requests = s.agent.requests.tail
      ∧ t.clock.now = s.clock.now ∧ t.pins = s.pins ∧ t.trunk = s.trunk ∧ t.held = s.held
      ∧ t.freeCount = s.freeCount ∧ t.pending = s.pending

/-- An unknown operation code is answered UNKNOWN_OP; a table code outside 1..7, or a table that does not take the
operation, BAD_TABLE, with missing bytes BAD_VALUE before it (R32, R182, R183; a WRITE_ENTRY on RETENTION with a short
image: log 16). Nothing else changes. -/
def Sys2Proof.Rules.UnknownOperationOrTable : Prop :=
  ∀ (rq : Request) (s : State),
    (Executes (.unknownOp rq) rq s → exec (.unknownOp rq) s = .next (responded rq .unknownOp [] s))
      ∧ (Executes (.badTableRequest rq) rq s →
        exec (.badTableRequest rq) s = .next
          (responded rq
            (if rq.arguments.length
                < (if rq.operation = 0x04 ∧ rq.arguments ≠ [] then 2 + imageLength rq.table else 2) then
              .badValue
            else .badTable) [] s))

/-- Every row that reads argument bytes, with how many it needs (R32 to R34): identifier and index, a value, table and
index, the table's image, a position, a profile, a spur mask, an event mask. -/
def Sys2Proof.Rules.argumentBytes (rq : Request) : List (Instr × Nat) :=
  [(.readAttr rq, 3), (.writeAttr rq, 7),
    (.readEntryChannel rq, 2), (.readEntryProfile rq, 2), (.readEntryTransition rq, 2),
    (.readEntryDescriptor rq, 2), (.readEntryListhead rq, 2), (.readEntryPattern rq, 2),
    (.readEntryRetention rq, 2), (.deleteEntryChannel rq, 2), (.deleteEntryDescriptor rq, 2)]
  ++ [(.writeEntryChannel rq, 15), (.writeEntryProfile rq, 6), (.writeEntryTransition rq, 11),
    (.writeEntryDescriptor rq, 5), (.writeEntryListhead rq, 3), (.writeEntryPattern rq, 3),
    (.readContext rq, 1), (.clearContext rq, 1), (.setProfile rq, 1), (.clearSpurErrors rq, 1),
    (.resumeSpur rq, 1), (.clearEvents rq, 4)]

/-- A request with fewer argument bytes than its row needs is answered BAD_VALUE and changes nothing else (R32, R182; a
WRITE_ATTR with missing bytes is the row WRITE_ATTR: log 17). -/
def Sys2Proof.Rules.MissingBytesRefused : Prop :=
  ∀ (c : Instr) (k : Nat) (rq : Request) (s : State),
    (c, k) ∈ Rules.argumentBytes rq → Executes c rq s → rq.arguments.length < k →
    exec c s = .next (responded rq .badValue [] s)

/-- The attributes of R185: identifier, how many indexes, and how many of them, from 0, are writable. -/
def Sys2Proof.Rules.attributes : List (Nat × Nat × Nat) :=
  [(0x0001, 1, 0), (0x0002, 1, 0), (0x0003, 1, 1), (0x0004, 1, 0), (0x0010, 2, 0), (0x0011, 4, 0),
    (0x0012, 2, 0), (0x0013, 3, 0), (0x0014, 1, 1), (0x0020, 1, 1), (0x0021, 1, 1), (0x0022, 1, 1),
    (0x0023, 1, 1), (0x0030, 1, 1), (0x0031, 1, 1), (0x0032, 1, 1), (0x0033, 1, 1), (0x0034, 1, 1),
    (0x0035, 8, 0), (0x0036, 1, 1), (0x0040, 1, 0), (0x0041, 1, 1), (0x0042, 1, 1), (0x0050, 2, 0)]
  ++ [(0x0051, 3, 0), (0x0052, 3, 0), (0x0053, 2, 2), (0x0054, 1, 1), (0x0055, 1, 1), (0x0056, 7, 6),
    (0x0060, 5, 0), (0x0061, 1, 0), (0x0062, 1, 0), (0x0070, 9, 5), (0x0080, 1, 1), (0x0100, 1, 1),
    (0x0101, 1, 1), (0x0102, 1, 0), (0x0103, 1, 0), (0x0104, 1, 1), (0x0105, 1, 1), (0x0106, 1, 1),
    (0x0107, 1, 1), (0x0108, 1, 1), (0x0109, 1, 0), (0x010A, 1, 0), (0x010B, 1, 0), (0x010C, 1, 1)]

/-- The rows that a WRITE_ATTR can be. -/
def Sys2Proof.Rules.writeRows (rq : Request) : List Instr :=
  [.writeAttr rq, .writeStationOverride rq, .clearMissCountUp rq, .clearMissCountDown rq, .writeHoldMaxAge rq,
    .clearHoldDiscards rq, .writeRecordEnable rq, .writeWakeCompareHigh rq, .writeWakeCompareLow rq,
    .writeGatePolarity rq, .writeForce rq, .writeFollow rq, .writeSettle rq, .writeEarlyLeave rq,
    .clearSpurLost rq, .writeWatchEnable rq, .writeWatchMode rq, .writeQuietThreshold rq,
    .writeActionThreshold rq]

/-- READ_ATTR, and WRITE_ATTR in every one of its rows: an identifier outside the attribute list is BAD_INDEX, an index
outside the attribute's range BAD_INDEX, and a write of a read-only index BAD_VALUE; nothing else changes (R184,
R185). -/
def Sys2Proof.Rules.AttributeChecks : Prop :=
  ∀ (rq : Request) (identifier index : Nat) (v : Value) (s : State),
    let unknown := ∀ row ∈ Rules.attributes, row.1 ≠ identifier
    (Executes (.readAttr rq) rq s → readOperands rq = some (identifier, index) →
        (unknown → exec (.readAttr rq) s = .next (responded rq .badIndex [] s))
          ∧ ∀ indexes writable : Nat, (identifier, indexes, writable) ∈ Rules.attributes → indexes ≤ index →
              exec (.readAttr rq) s = .next (responded rq .badIndex [] s))
      ∧ ∀ c ∈ Rules.writeRows rq, Executes c rq s → writeOperands rq = some (identifier, index, v) →
          (unknown → exec c s = .next (responded rq .badIndex [] s))
            ∧ ∀ indexes writable : Nat, (identifier, indexes, writable) ∈ Rules.attributes →
                (indexes ≤ index → exec c s = .next (responded rq .badIndex [] s))
                  ∧ (index < indexes → writable ≤ index →
                    exec c s = .next (responded rq .badValue [] s))

/-- A request whose arguments fail the shared checks is answered with the status that the first failed check gives, and
changes nothing else. -/
def Obligations.RefusedBySharedChecks : Prop :=
  Rules.UnknownOperationOrTable ∧ Rules.MissingBytesRefused ∧ Rules.AttributeChecks

/-- PART_ID reads 0x41463336 in every state, and STATION, STATION_OVERRIDE and STRAPS give the part's address and its
sampled straps (R29, R187). -/
def Obligations.PartIdReads : Prop :=
  ∀ (rq : Request) (s : State),
    Executes (.readAttr rq) rq s →
    (readOperands rq = some (0x0001, 0) →
        exec (.readAttr rq) s = .next (responded rq .ok [0x41, 0x46, 0x33, 0x36] s))
      ∧ (readOperands rq = some (0x0002, 0) →
        exec (.readAttr rq) s = .next
          (responded rq .ok
            [0, 0, 0,
              if s.agent.overrideEnabled then s.agent.overrideAddress
              else 0xA0 + s.agent.straps.addr.setWidth 8] s))
      ∧ (readOperands rq = some (0x0003, 0) →
        exec (.readAttr rq) s = .next
          (responded rq .ok [0, 0, if s.agent.overrideEnabled then 1 else 0, s.agent.overrideAddress] s))
      ∧ (readOperands rq = some (0x0004, 0) →
        exec (.readAttr rq) s = .next
          (responded rq .ok
            [0, 0, 0, s.agent.straps.addr.setWidth 8 + if s.agent.straps.start then 16 else 0] s))

/-- An accepted READ_ATTR answers the attribute's value as it stands, most significant byte first, and changes nothing
(R184). -/
def Sys2Proof.Rules.ReadAttrAnswersValue : Prop :=
  ∀ (rq : Request) (a : Attr) (index : Nat) (s : State),
    Executes (.readAttr rq) rq s → checkRead rq = .ok (a, index) →
    exec (.readAttr rq) s = .next (responded rq .ok (bytes32 (readAttribute a index s)) s)

/-- Every attribute of the part by identifier and index, with the number it reads (R15, R25, R29, R63, R65, R71, R72,
R90, R123, R128, R130, R133, R157, R158, R161, R162, R164, R165, R170, R186 to R189; the miss policies' codes: log
10). -/
def Sys2Proof.Rules.globalValues (s : State) : List (Nat × Nat × Nat) :=
  let high := fun t : Time => t.toNat / 2 ^ 32
  let low := fun t : Time => t.toNat % 2 ^ 32
  let held := fun port : Port => s.hold.records.countP fun r => decide (r.port = port)
  let a := s.agent
  let p := s.profiles
  let c := s.clock
  let w := s.watch
  let k := s.check
  let e := s.trunk.errors
  [(0x0001, 0, 0x41463336),
    (0x0002, 0, if a.overrideEnabled then a.overrideAddress.toNat else 0xA0 + a.straps.addr.toNat),
    (0x0003, 0, 256 * a.overrideEnabled.toNat + a.overrideAddress.toNat),
    (0x0004, 0, 16 * a.straps.start.toNat + a.straps.addr.toNat),
    (0x0010, 0, p.applied.code), (0x0010, 1, p.admission.code),
    (0x0011, 0, p.transition.elim 0 fun x => x.phase.code),
    (0x0011, 1, p.transition.elim 0xFF fun x => x.source.code),
    (0x0011, 2, p.transition.elim 0xFF fun x => x.target.code),
    (0x0011, 3, p.transition.elim 0 fun x => x.closing.toNat),
    (0x0012, 0, p.request.elim 0xFF fun q => q.target.code),
    (0x0012, 1, p.request.elim 0xFF fun q => q.source.code),
    (0x0013, 0, p.lastRefusal.elim 0 fun r => 65536 * r.source.code + 256 * r.target.code + r.cause.code),
    (0x0013, 1, p.lastRefusal.elim 0 fun r => high r.time),
    (0x0013, 2, p.lastRefusal.elim 0 fun r => low r.time),
    (0x0014, 0, p.wakeTarget.code)]
  ++ [(0x0020, 0, s.admission.forwardUp.toNat), (0x0021, 0, s.admission.floodDown.toNat),
    (0x0022, 0, s.admission.missUp.toNat), (0x0023, 0, s.admission.missDown.toNat),
    (0x0030, 0, s.hold.marks[0]), (0x0031, 0, s.hold.marks[1]), (0x0032, 0, s.hold.marks[2]),
    (0x0033, 0, s.hold.marks[3]), (0x0034, 0, s.hold.maxAge),
    (0x0035, 0, s.hold.records.length), (0x0035, 1, held .trunk),
    (0x0035, 2, held (.spur 0)), (0x0035, 3, held (.spur 1)), (0x0035, 4, held (.spur 2)),
    (0x0035, 5, held (.spur 3)), (0x0035, 6, held (.spur 4)), (0x0035, 7, held (.spur 5)),
    (0x0036, 0, s.hold.discards.toNat),
    (0x0040, 0, a.status.toNat), (0x0041, 0, a.record.toNat), (0x0042, 0, a.notify.toNat)]
  ++ [(0x0050, 0, high c.now), (0x0050, 1, low c.now),
    (0x0051, 0, c.current.cause.code), (0x0051, 1, high c.current.time), (0x0051, 2, low c.current.time),
    (0x0052, 0, c.previous.cause.code), (0x0052, 1, high c.previous.time), (0x0052, 2, low c.previous.time),
    (0x0053, 0, 256 * c.compareArmed.toNat + high c.compareTarget), (0x0053, 1, low c.compareTarget),
    (0x0054, 0, c.wakeActiveLow.toNat), (0x0055, 0, s.spurLines.gateInverted.toNat),
    (0x0056, 0, w.enabled.toNat), (0x0056, 1, w.direct.toNat), (0x0056, 2, w.quietThreshold),
    (0x0056, 3, w.actionThreshold), (0x0056, 4, w.action.code), (0x0056, 5, w.fallback.code),
    (0x0056, 6, w.stage.code)]
  ++ [(0x0060, 0, e.check.toNat), (0x0060, 1, e.ends.toNat), (0x0060, 2, e.short.toNat),
    (0x0060, 3, e.badKind.toNat), (0x0060, 4, e.wrongStation.toNat),
    (0x0061, 0, s.retention.saveLost.toNat), (0x0062, 0, s.retention.skipCount),
    (0x0070, 0, k.target.val), (0x0070, 1, k.station.toNat), (0x0070, 2, k.pattern.code), (0x0070, 3, k.length),
    (0x0070, 4, k.count), (0x0070, 5, k.sent.toNat), (0x0070, 6, k.mismatched.toNat),
    (0x0070, 7, k.missing.toNat), (0x0070, 8, k.outcome.code),
    (0x0080, 0, a.spurSelect.toNat)]

/-- Every attribute of a spur by identifier, with the number it reads; WAITING is bit 15 of SPUR_STATUS (R77, R79, R89,
R90, R92, R93, R111, R113, R115). -/
def Sys2Proof.Rules.spurValues (sp : Spur) : List (Nat × Nat) :=
  [(0x0100, sp.force.toNat), (0x0101, sp.follow.toNat), (0x0102, sp.drive.toNat), (0x0103, sp.presence.code),
    (0x0104, sp.settle), (0x0105, sp.earlyLeave.toNat), (0x0106, sp.responseWindow), (0x0107, sp.closeWindow),
    (0x0108, sp.burstGap),
    (0x0109, sp.errors.toNat + if sp.engine.state = .stalled ∧ sp.queue ≠ [] then 0x8000 else 0),
    (0x010A, sp.engine.state.code), (0x010B, sp.queue.length), (0x010C, sp.lost.toNat)]

/-- A READ_ATTR answers the number that its attribute's index holds, in four bytes, most significant first, and
changes nothing: of an attribute of a spur, the number of the lowest-numbered spur of SPUR_SELECT (R15, R25, R29, R63,
R65, R71, R72, R77, R79, R89, R90, R92, R93, R111, R113, R115, R123, R128, R130, R133, R157, R158, R161, R162, R164,
R165, R170, R184, R186 to R189; the miss policies' codes: log 10). -/
def Sys2Proof.Rules.AttributeValues : Prop :=
  ∀ (rq : Request) (identifier index value : Nat) (s : State),
    Executes (.readAttr rq) rq s → readOperands rq = some (identifier, index) →
    let answers := exec (.readAttr rq) s = .next (responded rq .ok (Rules.bigEndian 4 value) s)
    ((identifier, index, value) ∈ Rules.globalValues s → answers)
      ∧ ∀ n : SpurId,
          inSet n s.agent.spurSelect = true → (∀ m : SpurId, m < n → inSet m s.agent.spurSelect = false) →
          index = 0 → (identifier, value) ∈ Rules.spurValues s.spurs[n] → answers

/-- A WRITE_ATTR of an attribute without a row of its own, once the shared checks pass, is answered OK with the value
then reading back, or by its owner with BUSY or BAD_VALUE and nothing changed (R184, R186). -/
def Sys2Proof.Rules.WrittenAttributeReadsBack : Prop :=
  ∀ (rq : Request) (a : Attr) (index : Nat) (v : Value) (s : State),
    Executes (.writeAttr rq) rq s → checkWrite rq = .ok (a, index, v) → s.agent.spurSelect ≠ 0 →
    (∃ t : State, exec (.writeAttr rq) s = .next (responded rq .ok [] t)
        ∧ readAttribute a index t = v ∧ t.table = s.table ∧ t.hold.records = s.hold.records
        ∧ t.trunk = s.trunk ∧ t.arbiter = s.arbiter ∧ t.retention = s.retention
        ∧ t.profiles.applied = s.profiles.applied ∧ t.profiles.transition = s.profiles.transition)
      ∨ exec (.writeAttr rq) s = .next (responded rq .badValue [] s)
      ∨ (exec (.writeAttr rq) s = .next (responded rq .busy [] s) ∧ a = .lineCheck)

/-- The writes of the settings that belong to no spur and no line check: WAKE_TARGET takes DAY or DUSK, the miss
policies 0 or 1 (codes: log 10), a mark 1..64, NOTIFY_ENABLE 31 bits, WAKE_PIN_POLARITY 0 or 1, the watch's action
0..2 and its fallback a profile, SPUR_SELECT a non-empty set. Each is answered OK with the setting changed alone;
every other value is BAD_VALUE and changes nothing (R15, R63, R123, R164, R165, R184, R186, R189). -/
def Sys2Proof.Rules.PlainSettingWrites : Prop :=
  ∀ (rq : Request) (v : Value) (s : State), Executes (.writeAttr rq) rq s →
    let writes := fun (identifier index : Nat) (accepted : Bool) (t : State) =>
      writeOperands rq = some (identifier, index, v) →
        exec (.writeAttr rq) s = .next (if accepted then responded rq .ok [] t else responded rq .badValue [] s)
    (writes 0x0014 0 (v = 1 || v = 2)
        { s with profiles := { s.profiles with wakeTarget := if v = 1 then .dusk else .day } })
      ∧ (writes 0x0020 0 (v = 0 || v = 1) { s with admission := { s.admission with forwardUp := v = 1 } })
      ∧ (writes 0x0021 0 (v = 0 || v = 1) { s with admission := { s.admission with floodDown := v = 1 } })
      ∧ (∀ m : Fin 4, writes (0x0030 + m.val) 0 (decide (1 ≤ v.toNat ∧ v.toNat ≤ 64))
        { s with hold := { s.hold with marks := s.hold.marks.set m v.toNat } })
      ∧ (writes 0x0042 0 (!v.getLsbD 31) { s with agent := { s.agent with notify := v.setWidth 31 } })
      ∧ (writes 0x0054 0 (v = 0 || v = 1) { s with clock := { s.clock with wakeActiveLow := v = 1 } })
      ∧ (writes 0x0056 4 (v = 0 || v = 1 || v = 2)
        { s with watch := { s.watch with
            action := if v = 0 then .none else if v = 1 then .fallback else .reset } })
      ∧ (writes 0x0056 5 (v = 0 || v = 1 || v = 2)
        { s with watch := { s.watch with
            fallback := if v = 0 then .night else if v = 1 then .dusk else .day } })
      ∧ writes 0x0080 0 (decide (1 ≤ v.toNat ∧ v.toNat ≤ 63))
        { s with agent := { s.agent with spurSelect := v.setWidth 6 } }

/-- The writes of the line check's settings: BUSY while a check waits or runs; else the target 0..5, the echo station
one byte, the pattern 0..5, the length 0..240 and the count 1..65535 are answered OK with the setting changed alone,
and every other value is BAD_VALUE and changes nothing (R170, R182). -/
def Sys2Proof.Rules.CheckSettingWrites : Prop :=
  ∀ (rq : Request) (index : Nat) (v : Value) (s : State),
    Executes (.writeAttr rq) rq s → writeOperands rq = some (0x0070, index, v) → index < 5 →
    let answers := fun t : State => exec (.writeAttr rq) s = .next t
    let set := fun c : LineCheck => responded rq .ok [] { s with check := c }
    let busy := s.check.outcome = .waiting ∨ s.check.outcome = .running
    (busy → answers (responded rq .busy [] s))
      ∧ (¬busy →
        (∀ n : SpurId, index = 0 → v.toNat = n.val → answers (set { s.check with target := n }))
          ∧ (index = 1 → v.toNat < 256 → answers (set { s.check with station := v.setWidth 8 }))
          ∧ (∀ p : Pattern, index = 2 → v.toNat = p.code → answers (set { s.check with pattern := p }))
          ∧ (index = 3 → v.toNat ≤ 240 → answers (set { s.check with length := v.toNat }))
          ∧ (index = 4 → 1 ≤ v.toNat → v.toNat ≤ 65535 → answers (set { s.check with count := v.toNat }))
          ∧ (index = 0 ∧ 5 < v.toNat ∨ index = 1 ∧ 255 < v.toNat ∨ index = 2 ∧ 5 < v.toNat
              ∨ index = 3 ∧ 240 < v.toNat ∨ index = 4 ∧ (v = 0 ∨ 65535 < v.toNat) →
            answers (responded rq .badValue [] s)))

/-- The writes of the windows and the burst gap: 1..255, 1..255 and 1..1023 are answered OK and set on every spur of
SPUR_SELECT and no other; every other value is BAD_VALUE and changes nothing (R111, R186). -/
def Sys2Proof.Rules.WindowWrites : Prop :=
  ∀ (rq : Request) (identifier : Nat) (v : Value) (s : State),
    Executes (.writeAttr rq) rq s → writeOperands rq = some (identifier, 0, v) →
    let limit := if identifier = 0x0108 then 1023 else 255
    identifier = 0x0106 ∨ identifier = 0x0107 ∨ identifier = 0x0108 →
    (1 ≤ v.toNat → v.toNat ≤ limit →
        ∃ t : State, exec (.writeAttr rq) s = .next (responded rq .ok [] t)
          ∧ { t with spurs := s.spurs } = s
          ∧ ∀ n : SpurId,
              t.spurs[n] =
                if inSet n s.agent.spurSelect then
                  if identifier = 0x0106 then { s.spurs[n] with responseWindow := v.toNat }
                  else if identifier = 0x0107 then { s.spurs[n] with closeWindow := v.toNat }
                  else { s.spurs[n] with burstGap := v.toNat }
                else s.spurs[n])
      ∧ (v = 0 ∨ limit < v.toNat → exec (.writeAttr rq) s = .next (responded rq .badValue [] s))

/-- READ_ATTR, and the WRITE_ATTR of the plain attributes. -/
def Obligations.AttributeReadsAndWrites : Prop :=
  Rules.ReadAttrAnswersValue ∧ Rules.AttributeValues ∧ Rules.PlainSettingWrites ∧ Rules.CheckSettingWrites
    ∧ Rules.WindowWrites ∧ Rules.WrittenAttributeReadsBack

/-- The writes of one setting of the part: STATION_OVERRIDE, RECORD_ENABLE (which clears the flags it leaves out),
WAKE_COMPARE low (which disarms), TRUNK_WATCH enable and mode (which restart the episode), each with its range (R29,
R162, R166, R189). -/
def Sys2Proof.Rules.SettingWrites : Prop :=
  ∀ (rq : Request) (v : Value) (s : State),
    (Executes (.writeStationOverride rq) rq s → writeOperands rq = some (0x0003, 0, v) →
        exec (.writeStationOverride rq) s = .next
          (if v.toNat < 512 ∧ v.setWidth 8 ≠ 0xFF then
            responded rq .ok []
              { s with agent := { s.agent with
                  overrideAddress := v.setWidth 8, overrideEnabled := v.getLsbD 8 } }
          else responded rq .badValue [] s))
      ∧ (Executes (.writeRecordEnable rq) rq s → writeOperands rq = some (0x0041, 0, v) →
        exec (.writeRecordEnable rq) s = .next
          (if v.getLsbD 31 then responded rq .badValue [] s
          else responded rq .ok []
            { s with agent := { s.agent with
                record := v.setWidth 31, status := s.agent.status &&& v.setWidth 31 } }))
      ∧ (Executes (.writeWakeCompareLow rq) rq s → writeOperands rq = some (0x0053, 1, v) →
        exec (.writeWakeCompareLow rq) s = .next
          (responded rq .ok []
            { s with clock := { s.clock with
                compareTarget := s.clock.compareTarget.extractLsb' 32 8 ++ v, compareArmed := false } }))
      ∧ (Executes (.writeWatchEnable rq) rq s → writeOperands rq = some (0x0056, 0, v) →
        exec (.writeWatchEnable rq) s = .next
          (if v = 1 then responded rq .ok []
            { s with watch := { s.watch with
                enabled := true, stage := .counting, episodeStart := s.clock.now } }
          else if v = 0 then responded rq .ok []
            { s with watch := { s.watch with enabled := false, stage := .off } }
          else responded rq .badValue [] s))
      ∧ (Executes (.writeWatchMode rq) rq s → writeOperands rq = some (0x0056, 1, v) → v.toNat < 2 →
        exec (.writeWatchMode rq) s = .next
          (responded rq .ok []
            (if s.watch.enabled then
              { s with watch := { s.watch with
                  direct := v = 1, stage := .counting, episodeStart := s.clock.now } }
            else { s with watch := { s.watch with direct := v = 1 } })))

/-- A write of MISS_COUNT_UP, MISS_COUNT_DOWN, HOLD_DISCARDS or SPUR_LOST sets the counter to 0 whatever its value,
the last for every selected spur and no other (R15, R71, R79, R184, R186). -/
def Sys2Proof.Rules.CounterWritesClear : Prop :=
  ∀ (rq : Request) (v : Value) (s : State),
    (Executes (.clearMissCountUp rq) rq s → writeOperands rq = some (0x0022, 0, v) →
        exec (.clearMissCountUp rq) s = .next
          (responded rq .ok [] { s with admission := { s.admission with missUp := 0 } }))
      ∧ (Executes (.clearMissCountDown rq) rq s → writeOperands rq = some (0x0023, 0, v) →
        exec (.clearMissCountDown rq) s = .next
          (responded rq .ok [] { s with admission := { s.admission with missDown := 0 } }))
      ∧ (Executes (.clearHoldDiscards rq) rq s → writeOperands rq = some (0x0036, 0, v) →
        exec (.clearHoldDiscards rq) s = .next
          (responded rq .ok [] { s with hold := { s.hold with discards := 0 } }))
      ∧ (Executes (.clearSpurLost rq) rq s → writeOperands rq = some (0x010C, 0, v) →
        ∃ t : State, exec (.clearSpurLost rq) s = .next (responded rq .ok [] t)
          ∧ { t with spurs := s.spurs } = s
          ∧ ∀ n : SpurId,
              t.spurs[n] = if inSet n s.agent.spurSelect then { s.spurs[n] with lost := 0 } else s.spurs[n])

/-- The writes of settings and counters with a row of their own. -/
def Obligations.SettingAndCounterWrites : Prop :=
  Rules.SettingWrites ∧ Rules.CounterWritesClear

/-- A request has left the request queue and its OK response, with no result, stands last in the response queue (R33,
R181). -/
def Sys2Proof.Rules.AnsweredOk (rq : Request) (s u : State) : Prop :=
  u.agent.requests = s.agent.requests.tail
    ∧ u.arbiter.responses =
        s.arbiter.responses ++ [⟨rq.source, station s, [rq.operation, rq.tag] ++ Status.ok.bytes⟩]

/-- The rows of WRITE_ATTR with a range, each with its attribute, its index and whether a value is in range (R65, R90,
R92, R93, R162, R165). -/
def Sys2Proof.Rules.writeRanges (rq : Request) (v : Value) : List (Instr × Nat × Nat × Bool) :=
  [(.writeHoldMaxAge rq, 0x0034, 0, decide (v.toNat ≤ 65535)),
    (.writeWakeCompareHigh rq, 0x0053, 0, decide (v.toNat < 512)),
    (.writeGatePolarity rq, 0x0055, 0, decide (v.toNat < 2)),
    (.writeForce rq, 0x0100, 0, decide (v.toNat < 2)),
    (.writeFollow rq, 0x0101, 0, decide (v.toNat < 2)),
    (.writeSettle rq, 0x0104, 0, decide (v = 0 ∨ v = 4 ∨ v = 16 ∨ v = 64)),
    (.writeEarlyLeave rq, 0x0105, 0, decide (v.toNat < 2)),
    (.writeWatchMode rq, 0x0056, 1, decide (v.toNat < 2)),
    (.writeQuietThreshold rq, 0x0056, 2, decide (1 ≤ v.toNat ∧ v.toNat ≤ 65535)),
    (.writeActionThreshold rq, 0x0056, 3, decide (1 ≤ v.toNat ∧ v.toNat ≤ 65535))]

/-- A value out of range is BAD_VALUE and changes nothing else (R65, R90, R92, R93, R162, R165, R184). -/
def Sys2Proof.Rules.OutOfRangeRefused : Prop :=
  ∀ (c : Instr) (identifier index : Nat) (rq : Request) (v : Value) (s : State),
    (c, identifier, index, false) ∈ Rules.writeRanges rq v → Executes c rq s →
    writeOperands rq = some (identifier, index, v) → exec c s = .next (responded rq .badValue [] s)

/-- Something done to each spur of SPUR_SELECT, from S0 upward (R186). -/
def Sys2Proof.Rules.onSelected (change : SpurId → State → State) (s : State) : State :=
  (([0, 1, 2, 3, 4, 5] : List SpurId).filter fun n => inSet n s.agent.spurSelect).foldl (fun u n => change n u) s

/-- The writes that act at once, each answered OK: HOLD_MAX_AGE expires what has reached the new age; GATE_POLARITY
computes every drive anew, FORCE and FOLLOW those of the selected spurs once all have the setting, each with what
follows for presence, engine, queue, line check and events, as `PresenceAndDrive` gives; WAKE_COMPARE high arms, and
fires when its target is reached (R65, R89 to R91, R93, R107, R162, R163, R186). -/
def Sys2Proof.Rules.WritesThatActAtOnce : Prop :=
  ∀ (rq : Request) (v : Value) (s : State),
    (Executes (.writeHoldMaxAge rq) rq s → writeOperands rq = some (0x0034, 0, v) → v.toNat ≤ 65535 →
        let t := { s with hold := { s.hold with maxAge := v.toNat } }
        let u := { t with hold := { t.hold with
          records := t.hold.records.dropWhile (aged t)
          discards := satAdd t.hold.discards (t.hold.records.takeWhile (aged t)).length } }
        exec (.writeHoldMaxAge rq) s = .next
          (responded rq .ok [] (if t.hold.records.takeWhile (aged t) = [] then u else raise .holdExpired u)))
      ∧ (Executes (.writeGatePolarity rq) rq s → writeOperands rq = some (0x0055, 0, v) → v.toNat < 2 →
        ∃ u, exec (.writeGatePolarity rq) s = .next u ∧ Rules.AnsweredOk rq s u
          ∧ u = answer rq .ok []
              (Rules.reevaluated
                { popRequest s with spurLines := { s.spurLines with gateInverted := decide (v = 1) } })
          ∧ u.spurLines.gateInverted = decide (v = 1)
          ∧ ∀ n : SpurId, u.spurs[n].drive = computedDrive n u
              ∧ u.spurs[n].force = s.spurs[n].force ∧ u.spurs[n].follow = s.spurs[n].follow)
      ∧ (Executes (.writeForce rq) rq s → writeOperands rq = some (0x0100, 0, v) → v.toNat < 2 →
        ∃ u, exec (.writeForce rq) s = .next u ∧ Rules.AnsweredOk rq s u
          ∧ u = answer rq .ok []
              (Rules.onSelected evaluateDrive
                (Rules.onSelected (fun n => modifySpur n fun sp => { sp with force := decide (v = 1) })
                  (popRequest s)))
          ∧ ∀ n : SpurId,
              if inSet n s.agent.spurSelect then
                u.spurs[n].force = decide (v = 1) ∧ u.spurs[n].drive = computedDrive n u
              else u.spurs[n] = s.spurs[n])
      ∧ (Executes (.writeFollow rq) rq s → writeOperands rq = some (0x0101, 0, v) → v.toNat < 2 →
        ∃ u, exec (.writeFollow rq) s = .next u ∧ Rules.AnsweredOk rq s u
          ∧ u = answer rq .ok []
              (Rules.onSelected evaluateDrive
                (Rules.onSelected (fun n => modifySpur n fun sp => { sp with follow := decide (v = 1) })
                  (popRequest s)))
          ∧ ∀ n : SpurId,
              if inSet n s.agent.spurSelect then
                u.spurs[n].follow = decide (v = 1) ∧ u.spurs[n].drive = computedDrive n u
              else u.spurs[n] = s.spurs[n])
      ∧ (Executes (.writeWakeCompareHigh rq) rq s → writeOperands rq = some (0x0053, 0, v) → v.toNat < 512 →
        let target : Time := v.setWidth 8 ++ s.clock.compareTarget.setWidth 32
        (v.getLsbD 8 = false ∨ s.clock.now.toNat < target.toNat →
            exec (.writeWakeCompareHigh rq) s = .next
              (responded rq .ok []
                { s with clock := { s.clock with
                    compareTarget := target, compareArmed := v.getLsbD 8 } }))
          ∧ (v.getLsbD 8 = true → target.toNat ≤ s.clock.now.toNat →
            exec (.writeWakeCompareHigh rq) s = .next
              (answer rq .ok []
                (takeRequest ⟨.wakeTime, s.profiles.wakeTarget⟩
                  (raise .wakeTime
                    { popRequest s with clock := { s.clock with
                        compareTarget := target, compareArmed := false } })).1)))

/-- SETTLE set on a spur; its settle timer, where it has run the new time, expires with the write (R91, R92). -/
def Sys2Proof.Rules.settleWritten (settle : Nat) (n : SpurId) (s : State) : State :=
  let t := modifySpur n (fun sp => { sp with settle := settle }) s
  match s.spurs[n].settleTimer with
  | none => t
  | some start => if settle ≤ elapsed start s.clock.now then Rules.settleTaken n t else t

/-- A write of SETTLE or EARLY_LEAVE, answered OK, reaches the selected spurs alone: a settle timer that has run the
new time expires with the write, and a spur whose timer is stopped changes nothing else; EARLY_LEAVE set on a spur in
LEAVING takes its engine OFF, with its queue counted in SPUR_LOST and LOST where an exchange or a burst was abandoned,
and cleared brings it back to IDLE, PRESENCE_CHANGE raised with each; in any other presence nothing else changes (R78,
R91 to R93, R107, R179, R186). -/
def Sys2Proof.Rules.PresenceSettingWrites : Prop :=
  ∀ (rq : Request) (v : Value) (s : State),
    (Executes (.writeSettle rq) rq s → writeOperands rq = some (0x0104, 0, v) →
        v = 0 ∨ v = 4 ∨ v = 16 ∨ v = 64 →
        ∃ u, exec (.writeSettle rq) s = .next u ∧ Rules.AnsweredOk rq s u
          ∧ u = answer rq .ok [] (Rules.onSelected (Rules.settleWritten v.toNat) (popRequest s))
          ∧ ∀ n : SpurId,
              if inSet n s.agent.spurSelect then
                u.spurs[n].settle = v.toNat
                  ∧ (s.spurs[n].settleTimer = none → u.spurs[n] = { s.spurs[n] with settle := v.toNat })
                  ∧ ∀ start : Time, s.spurs[n].settleTimer = some start →
                      u.spurs[n].presence =
                        if v.toNat ≤ elapsed start s.clock.now then
                          (match s.spurs[n].presence with
                          | .arriving => .present
                          | .leaving => .absent
                          | p => p)
                        else s.spurs[n].presence
              else u.spurs[n] = s.spurs[n])
      ∧ (Executes (.writeEarlyLeave rq) rq s → writeOperands rq = some (0x0105, 0, v) → v.toNat < 2 →
        let leave := fun sp : Spur => { sp with earlyLeave := decide (v = 1) }
        ∃ u, exec (.writeEarlyLeave rq) s = .next u ∧ Rules.AnsweredOk rq s u
          ∧ u = answer rq .ok [] (Rules.onSelected (fun n => Rules.spurChanged n leave) (popRequest s))
          ∧ ∀ n : SpurId,
              if inSet n s.agent.spurSelect then
                u.spurs[n].earlyLeave = decide (v = 1) ∧ u.spurs[n].presence = s.spurs[n].presence
                  ∧ (s.spurs[n].presence ≠ .leaving → u.spurs[n] = leave s.spurs[n])
                  ∧ (s.spurs[n].presence = .leaving → s.spurs[n].earlyLeave ≠ decide (v = 1) →
                      u.spurs[n].engine.state = (if v = 1 then .off else .idle)
                        ∧ u.agent.status.getLsbD 30 = (s.agent.status.getLsbD 30 || s.agent.record.getLsbD 30)
                        ∧ (v = 1 → u.spurs[n].queue = []
                          ∧ u.spurs[n].lost = satAdd s.spurs[n].lost s.spurs[n].queue.length
                          ∧ u.spurs[n].errors.getLsbD 6 =
                              (s.spurs[n].errors.getLsbD 6 || decide (s.spurs[n].engine.state ∈ Rules.exchanging))))
              else u.spurs[n] = s.spurs[n])

/-- The writes whose consequences follow in the same event, and the refusal of a value out of range. -/
def Obligations.WritesThatActAtOnce : Prop :=
  Rules.WritesThatActAtOnce ∧ Rules.PresenceSettingWrites ∧ Rules.OutOfRangeRefused

/-- A write of a threshold of the silence watch, 1..65535, sets it and is answered OK; where the watch is not in the
stage that the threshold ends, or it has not run the new time, nothing else changes, and where it has, its step is
taken with the write as at the expiry, which `SilenceWatchThresholds` gives. That the answer is appended before the
step, so that a RESET loses it, is the model's choice (log 13). Any other value is BAD_VALUE and changes nothing
(R165, R167). -/
def Obligations.ThresholdWrites : Prop :=
  ∀ (rq : Request) (v : Value) (s : State),
    let inRange := 1 ≤ v.toNat ∧ v.toNat ≤ 65535
    (Executes (.writeQuietThreshold rq) rq s → writeOperands rq = some (0x0056, 2, v) →
        let set := responded rq .ok [] { s with watch := { s.watch with quietThreshold := v.toNat } }
        (inRange → exec (.writeQuietThreshold rq) s = exec .quietThresholdExpiry set)
          ∧ (inRange → s.watch.stage ≠ .counting ∨ elapsed s.watch.episodeStart s.clock.now < v.toNat →
            exec (.writeQuietThreshold rq) s = .next set)
          ∧ (inRange → s.watch.stage = .counting → v.toNat ≤ elapsed s.watch.episodeStart s.clock.now →
            s.watch.direct = false →
            ∃ u, exec (.writeQuietThreshold rq) s = .next u ∧ Rules.AnsweredOk rq s u ∧ u.watch.stage = .quiet
              ∧ u.watch.quietTime = s.clock.now ∧ u.clock.current = ⟨s.clock.now, .trunkQuiet⟩)
          ∧ (¬inRange → exec (.writeQuietThreshold rq) s = .next (responded rq .badValue [] s)))
      ∧ (Executes (.writeActionThreshold rq) rq s → writeOperands rq = some (0x0056, 3, v) →
        let set := responded rq .ok [] { s with watch := { s.watch with actionThreshold := v.toNat } }
        (inRange → exec (.writeActionThreshold rq) s = exec .actionThresholdExpiry set)
          ∧ (inRange → s.watch.stage ≠ .quiet ∨ elapsed s.watch.quietTime s.clock.now < v.toNat →
            exec (.writeActionThreshold rq) s = .next set)
          ∧ (inRange → s.watch.stage = .quiet → s.watch.direct = false → s.watch.action = .none →
            v.toNat ≤ elapsed s.watch.quietTime s.clock.now →
            ∃ u, exec (.writeActionThreshold rq) s = .next u ∧ Rules.AnsweredOk rq s u ∧ u.watch.stage = .done
              ∧ u.agent.status.getLsbD 17 = (s.agent.status.getLsbD 17 || s.agent.record.getLsbD 17))
          ∧ (¬inRange → exec (.writeActionThreshold rq) s = .next (responded rq .badValue [] s)))

/-! ## Management: tables and contexts -/

/-- A CHANNEL entry in range is written by its own image, whatever bytes follow, and a written entry is in range (R2,
R5, R34). -/
def Sys2Proof.Rules.ChannelImageRoundTrip : Prop :=
  (∀ (e : Entry) (more : List Byte), e.inRange = true →
      e.image.length = 13 ∧ Entry.ofImage (e.image ++ more) = some e)
    ∧ ∀ (b : List Byte) (e : Entry), Entry.ofImage b = some e → e.inRange = true

/-- PROFILE, TRANSITION and DESCRIPTOR records in range are written by their own images, and a written record is in
range (R34, R118 to R121, R142, R144). -/
def Sys2Proof.Rules.RecordImagesRoundTrip : Prop :=
  (∀ (i : Fin 3) (r : ProfileRecord), r.inRange (profileOfIndex i) = true →
      r.image.length = 4 ∧ ProfileRecord.ofImage (profileOfIndex i) r.image = some r)
    ∧ (∀ (i : Fin 3) (b : List Byte) (r : ProfileRecord),
      ProfileRecord.ofImage (profileOfIndex i) b = some r → r.inRange (profileOfIndex i) = true)
    ∧ (∀ (i : Fin 6) (r : TransitionRecord), r.inRange i = true →
      r.image.length = 9 ∧ TransitionRecord.ofImage i r.image = some r)
    ∧ (∀ (i : Fin 6) (b : List Byte) (r : TransitionRecord),
      TransitionRecord.ofImage i b = some r → r.inRange i = true)
    ∧ (∀ d : Descriptor, 1 ≤ d.count → d.count ≤ 128 →
      d.image.length = 3 ∧ Descriptor.ofImage d.image = some d)
    ∧ ∀ (b : List Byte) (d : Descriptor), Descriptor.ofImage b = some d → 1 ≤ d.count ∧ d.count ≤ 128

/-- The place of every field in the images of CHANNEL, PROFILE, TRANSITION and DESCRIPTOR, an absent policer given as
depth and period 0, and an absent reference as 0xFF (R9, R34). -/
def Sys2Proof.Rules.ImageLayouts : Prop :=
  let byte := BitVec.ofNat 8
  let flag := fun b : Bool => byte b.toNat
  (∀ e : Entry, e.image =
      Rules.bigEndian 2 e.channel.toNat
        ++ [if e.direction = .up then 1 else 0, byte e.spurs.toNat, byte e.cls.val, byte e.live.toNat,
          match e.otherwise with
          | .drop => 0
          | .hold => 1
          | .wake => 2,
          byte (e.policer.elim 0 Policer.depth)]
        ++ Rules.bigEndian 2 (e.policer.elim 0 Policer.period)
        ++ [flag e.sequenceCheck, flag e.expectsResponse, flag e.autoClose])
    ∧ (∀ r : ProfileRecord, r.image =
      byte r.driveMask.toNat :: (Rules.bigEndian 2 r.timeout ++ [byte r.target.code]))
    ∧ (∀ r : TransitionRecord, r.image =
      [flag r.permitted, r.saveList.elim 0xFF fun k => byte k.val, flag r.restore]
        ++ Rules.bigEndian 2 r.drainLimit ++ Rules.bigEndian 2 r.settleWait
        ++ [flag r.discard, r.refusalMark.elim 0xFF fun k => byte k.val])
    ∧ ∀ d : Descriptor, d.image = [byte d.first.val, byte d.count, d.next.elim 0xFF fun k => byte k.val]

/-- Every table's image has its fields in their places, and is read as it is written. -/
def Obligations.ImagesRoundTrip : Prop :=
  Rules.ImageLayouts ∧ Rules.ChannelImageRoundTrip ∧ Rules.RecordImagesRoundTrip

/-- A WRITE_ENTRY on CHANNEL is refused by the first failed check of R4 and changes nothing, or is accepted: the
position holds the entry, its context is FRESH where the Context Store is powered, its held frames are discarded and
counted, and its retention slot is superseded (R4 to R7, R70, R153). -/
def Sys2Proof.Rules.ChannelWrite : Prop :=
  ∀ (rq : Request) (index : Nat) (image : List Byte) (s : State),
    Executes (.writeEntryChannel rq) rq s → entryImage rq 13 = some (index, image) →
    (128 ≤ index → exec (.writeEntryChannel rq) s = .next (responded rq .badIndex [] s))
      ∧ ∀ i : Position, i.val = index →
        (phase s = some .save ∨ phase s = some .restore →
            exec (.writeEntryChannel rq) s = .next (responded rq .busy [] s))
          ∧ (phase s ≠ some .save → phase s ≠ some .restore →
            (Entry.ofImage image = none →
                exec (.writeEntryChannel rq) s = .next (responded rq .badValue [] s))
              ∧ ∀ e : Entry, Entry.ofImage image = some e →
                let taken := ∃ (j : Position) (x : Entry),
                  j ≠ i ∧ s.table[j] = some x ∧ x.channel = e.channel ∧ x.direction = e.direction
                (taken → exec (.writeEntryChannel rq) s = .next (responded rq .duplicate [] s))
                  ∧ (¬taken → exec (.writeEntryChannel rq) s = .next
                    (responded rq .ok []
                      { s with
                        table := s.table.set i (some e)
                        admission := { s.admission with
                          store := s.admission.store.map fun v =>
                            v.set i { Context.blank with
                              tokens := e.policer.elim 0 Policer.depth, refillMark := s.clock.now } }
                        hold := { s.hold with
                          records := s.hold.records.filter fun r => r.index ≠ i
                          discards := satAdd s.hold.discards
                            (s.hold.records.filter fun r => r.index = i).length }
                        retention := { s.retention with
                          slots := s.retention.slots.map fun x =>
                            if x.index = i then { x with superseded := true } else x } })))

/-- A DELETE_ENTRY on CHANNEL: BAD_INDEX, or BUSY in SAVE and RESTORE, changing nothing; else OK, an empty position
staying as it is and a valid one emptied with the consequences of a write (R8). -/
def Sys2Proof.Rules.ChannelDelete : Prop :=
  ∀ (rq : Request) (index : Nat) (s : State),
    Executes (.deleteEntryChannel rq) rq s → entryIndex rq = some index →
    (128 ≤ index → exec (.deleteEntryChannel rq) s = .next (responded rq .badIndex [] s))
      ∧ ∀ i : Position, i.val = index →
        (phase s = some .save ∨ phase s = some .restore →
            exec (.deleteEntryChannel rq) s = .next (responded rq .busy [] s))
          ∧ (phase s ≠ some .save → phase s ≠ some .restore →
            (s.table[i] = none → exec (.deleteEntryChannel rq) s = .next (responded rq .ok [] s))
              ∧ (s.table[i] ≠ none → exec (.deleteEntryChannel rq) s = .next
                (responded rq .ok []
                  { s with
                    table := s.table.set i none
                    admission := { s.admission with
                      store := s.admission.store.map fun v =>
                        v.set i { Context.blank with refillMark := s.clock.now } }
                    hold := { s.hold with
                      records := s.hold.records.filter fun r => r.index ≠ i
                      discards := satAdd s.hold.discards
                        (s.hold.records.filter fun r => r.index = i).length }
                    retention := { s.retention with
                      slots := s.retention.slots.map fun x =>
                        if x.index = i then { x with superseded := true } else x } })))

/-- WRITE_ENTRY and DELETE_ENTRY on CHANNEL. -/
def Obligations.ChannelWriteAndDelete : Prop :=
  Rules.ChannelWrite ∧ Rules.ChannelDelete

/-- A READ_ENTRY on CHANNEL with an index outside 0..127 is answered BAD_INDEX; any other, in every profile and phase,
OK with the valid marker and the entry's image, or with marker 0 and thirteen zero bytes for an empty position;
nothing else changes. The image of an entry is the one it was written with, an absent policer given with period 0 (R9,
R34). -/
def Obligations.ChannelRead : Prop :=
  (∀ (rq : Request) (index : Nat) (s : State),
    Executes (.readEntryChannel rq) rq s → entryIndex rq = some index →
    (128 ≤ index → exec (.readEntryChannel rq) s = .next (responded rq .badIndex [] s))
      ∧ ∀ i : Position, i.val = index →
        (∀ e : Entry, s.table[i] = some e →
            exec (.readEntryChannel rq) s = .next (responded rq .ok (1 :: e.image) s))
          ∧ (s.table[i] = none →
            exec (.readEntryChannel rq) s = .next
              (responded rq .ok [0, 0, 0, 0, 0, 0, 0, 0, 0, 0, 0, 0, 0, 0] s)))
    ∧ ∀ (image : List Byte) (e : Entry),
        image.length = 13 → Entry.ofImage image = some e →
        e.image = if e.policer = none then (image.set 8 0).set 9 0 else image

/-- The writes of the other tables with no transition in flight (of PATTERN: BUSY while a check waits or runs):
BAD_VALUE for a list head that names none, else OK with the record, descriptor, head or byte set; so is the delete of
a descriptor; a write of the applied profile's record that its dormancy timer has already run makes the dormancy
request with the write (R119, R121, R132, R144, R171). -/
def Sys2Proof.Rules.TableWrites : Prop :=
  ∀ (rq : Request) (index : Nat) (image : List Byte) (s : State),
    (∀ (i : Fin 3) (r : ProfileRecord),
        Executes (.writeEntryProfile rq) rq s → entryImage rq 4 = some (index, image) → i.val = index →
        s.profiles.transition = none → ProfileRecord.ofImage (profileOfIndex i) image = some r →
        let t := { s with profiles := { s.profiles with records := s.profiles.records.set i r } }
        (profileOfIndex i ≠ s.profiles.applied ∨ dormancyDue t = false →
            exec (.writeEntryProfile rq) s = .next (responded rq .ok [] t))
          ∧ (profileOfIndex i = s.profiles.applied → dormancyDue t = true →
            exec (.writeEntryProfile rq) s = .next
              (answer rq .ok []
                (takeRequest ⟨.dormancy, r.target⟩
                  (popRequest { t with profiles := { t.profiles with dormancy := none } })).1)))
      ∧ (∀ (i : Fin 6) (r : TransitionRecord),
        Executes (.writeEntryTransition rq) rq s → entryImage rq 9 = some (index, image) → i.val = index →
        s.profiles.transition = none → TransitionRecord.ofImage i image = some r →
        exec (.writeEntryTransition rq) s = .next
          (responded rq .ok []
            { s with profiles := { s.profiles with transitions := s.profiles.transitions.set i r } }))
      ∧ (∀ (i : Fin 16) (d : Descriptor),
        Executes (.writeEntryDescriptor rq) rq s → entryImage rq 3 = some (index, image) → i.val = index →
        s.profiles.transition = none → Descriptor.ofImage image = some d →
        exec (.writeEntryDescriptor rq) s = .next
          (responded rq .ok []
            { s with retention := { s.retention with
                descriptors := s.retention.descriptors.set i (some d) } }))
      ∧ (∀ i : Fin 16,
        Executes (.deleteEntryDescriptor rq) rq s → entryIndex rq = some index → i.val = index →
        s.profiles.transition = none →
        exec (.deleteEntryDescriptor rq) s = .next
          (responded rq .ok []
            { s with retention := { s.retention with descriptors := s.retention.descriptors.set i none } }))
      ∧ (∀ (i : Fin 4) (b : Byte),
        Executes (.writeEntryListhead rq) rq s → entryImage rq 1 = some (index, [b]) → i.val = index →
        s.profiles.transition = none →
        exec (.writeEntryListhead rq) s = .next
          (match absentOr 16 b with
          | some d =>
            responded rq .ok []
              { s with retention := { s.retention with heads := s.retention.heads.set i d } }
          | none => responded rq .badValue [] s))
      ∧ (∀ (i : Fin 16) (b : Byte),
        Executes (.writeEntryPattern rq) rq s → entryImage rq 1 = some (index, [b]) → i.val = index →
        exec (.writeEntryPattern rq) s = .next
          (if s.check.outcome = .waiting ∨ s.check.outcome = .running then responded rq .busy [] s
          else responded rq .ok []
            { s with check := { s.check with custom := s.check.custom.set i b } }))

/-- While a transition is in flight every write of PROFILE, TRANSITION, DESCRIPTOR and LISTHEAD and every delete of a
descriptor whose index is in range is answered BUSY and changes nothing (R119, R121, R122, R144). -/
def Sys2Proof.Rules.TablesLockedInFlight : Prop :=
  ∀ (rq : Request) (index : Nat) (image : List Byte) (s : State), s.profiles.transition ≠ none →
    (Executes (.writeEntryProfile rq) rq s → entryImage rq 4 = some (index, image) → index < 3 →
        exec (.writeEntryProfile rq) s = .next (responded rq .busy [] s))
      ∧ (Executes (.writeEntryTransition rq) rq s → entryImage rq 9 = some (index, image) → index < 6 →
        exec (.writeEntryTransition rq) s = .next (responded rq .busy [] s))
      ∧ (Executes (.writeEntryDescriptor rq) rq s → entryImage rq 3 = some (index, image) → index < 16 →
        exec (.writeEntryDescriptor rq) s = .next (responded rq .busy [] s))
      ∧ (Executes (.deleteEntryDescriptor rq) rq s → entryIndex rq = some index → index < 16 →
        exec (.deleteEntryDescriptor rq) s = .next (responded rq .busy [] s))
      ∧ (Executes (.writeEntryListhead rq) rq s → entryImage rq 1 = some (index, image) → index < 4 →
        exec (.writeEntryListhead rq) s = .next (responded rq .busy [] s))

/-- The writes of the other tables, each with how many indexes its table has and the length of its image (R34, R119,
R121, R144, R171). -/
def Sys2Proof.Rules.tableWrites (rq : Request) : List (Instr × Nat × Nat) :=
  [(.writeEntryProfile rq, 3, 4), (.writeEntryTransition rq, 6, 9), (.writeEntryDescriptor rq, 16, 3),
    (.writeEntryListhead rq, 4, 1), (.writeEntryPattern rq, 16, 1)]

/-- A write or delete of an index out of range is BAD_INDEX; with no transition in flight an image out of range of
PROFILE, TRANSITION or DESCRIPTOR is BAD_VALUE; nothing else changes (R119, R121, R144, R171). -/
def Sys2Proof.Rules.TableWritesRefused : Prop :=
  ∀ (rq : Request) (index : Nat) (image : List Byte) (s : State),
    (∀ (c : Instr) (indexes length : Nat), (c, indexes, length) ∈ Rules.tableWrites rq →
        Executes c rq s → entryImage rq length = some (index, image) → indexes ≤ index →
        exec c s = .next (responded rq .badIndex [] s))
      ∧ (Executes (.deleteEntryDescriptor rq) rq s → entryIndex rq = some index → 16 ≤ index →
        exec (.deleteEntryDescriptor rq) s = .next (responded rq .badIndex [] s))
      ∧ (∀ i : Fin 3, Executes (.writeEntryProfile rq) rq s → entryImage rq 4 = some (index, image) →
        i.val = index → s.profiles.transition = none → ProfileRecord.ofImage (profileOfIndex i) image = none →
        exec (.writeEntryProfile rq) s = .next (responded rq .badValue [] s))
      ∧ (∀ i : Fin 6, Executes (.writeEntryTransition rq) rq s → entryImage rq 9 = some (index, image) →
        i.val = index → s.profiles.transition = none → TransitionRecord.ofImage i image = none →
        exec (.writeEntryTransition rq) s = .next (responded rq .badValue [] s))
      ∧ (Executes (.writeEntryDescriptor rq) rq s → entryImage rq 3 = some (index, image) → index < 16 →
        s.profiles.transition = none → Descriptor.ofImage image = none →
        exec (.writeEntryDescriptor rq) s = .next (responded rq .badValue [] s))

/-- An image of PROFILE, TRANSITION or DESCRIPTOR that is accepted is the image of its record, so that an image with a
field out of range is none that is accepted (R34, R119, R121, R144). -/
def Sys2Proof.Rules.AcceptedImages : Prop :=
  (∀ (i : Fin 3) (b : List Byte) (r : ProfileRecord),
      b.length = 4 → ProfileRecord.ofImage (profileOfIndex i) b = some r → r.image = b)
    ∧ (∀ (i : Fin 6) (b : List Byte) (r : TransitionRecord),
      b.length = 9 → TransitionRecord.ofImage i b = some r → r.image = b)
    ∧ ∀ (b : List Byte) (d : Descriptor), b.length = 3 → Descriptor.ofImage b = some d → d.image = b

/-- The writes and deletes of the other tables. -/
def Obligations.OtherTableWrites : Prop :=
  Rules.TableWrites ∧ Rules.TablesLockedInFlight ∧ Rules.TableWritesRefused ∧ Rules.AcceptedImages

/-- The reads of the other tables, each with how many indexes its table has (R119, R121, R144, R147, R171). -/
def Sys2Proof.Rules.tableReads (rq : Request) : List (Instr × Nat) :=
  [(.readEntryProfile rq, 3), (.readEntryTransition rq, 6), (.readEntryDescriptor rq, 16),
    (.readEntryListhead rq, 4), (.readEntryPattern rq, 16), (.readEntryRetention rq, 32)]

/-- The image of a context, 29 bytes, field by field, an absent field giving 0 (R34). -/
def Sys2Proof.Rules.ContextImage : Prop :=
  ∀ c : Context,
    let flag := fun b : Bool => BitVec.ofNat 8 b.toNat
    c.image.length = 29
      ∧ c.image =
        [flag c.live, flag c.lastSequence.isSome, c.lastSequence.getD 0, BitVec.ofNat 8 c.tokens]
          ++ Rules.bigEndian 5 c.refillMark.toNat ++ Rules.bigEndian 4 c.passed.toNat
          ++ Rules.bigEndian 2 c.policed.toNat ++ Rules.bigEndian 2 c.repeats.toNat
          ++ Rules.bigEndian 2 c.gaps.toNat ++ Rules.bigEndian 2 c.held.toNat
          ++ Rules.bigEndian 2 c.refused.toNat
          ++ [flag c.lastAdmitted.isSome] ++ Rules.bigEndian 5 (c.lastAdmitted.elim 0 BitVec.toNat)

/-- The RETENTION image of a valid slot, 31 bytes: its entry index, its superseded flag and its context's image (R34,
R147). -/
def Sys2Proof.Rules.SlotImage : Prop :=
  ∀ x : Slot, x.image.length = 31
    ∧ x.image = BitVec.ofNat 8 x.index.val :: BitVec.ofNat 8 x.superseded.toNat :: x.context.image

/-- The reads of the other tables answer OK with the marker 1 and the image, or with marker 0 and zeros for an empty
descriptor and a slot that is not valid, and change nothing; an index out of range is BAD_INDEX (R119, R121, R144,
R147, R171). -/
def Sys2Proof.Rules.TableReads : Prop :=
  ∀ (rq : Request) (index : Nat) (s : State), entryIndex rq = some index →
    (∀ i : Fin 3, Executes (.readEntryProfile rq) rq s → i.val = index →
        exec (.readEntryProfile rq) s = .next (responded rq .ok (1 :: s.profiles.records[i].image) s))
      ∧ (∀ i : Fin 6, Executes (.readEntryTransition rq) rq s → i.val = index →
        exec (.readEntryTransition rq) s = .next (responded rq .ok (1 :: s.profiles.transitions[i].image) s))
      ∧ (∀ i : Fin 16, Executes (.readEntryDescriptor rq) rq s → i.val = index →
        exec (.readEntryDescriptor rq) s = .next
          (responded rq .ok
            (match s.retention.descriptors[i] with
            | some d => 1 :: d.image
            | none => [0, 0, 0, 0]) s))
      ∧ (∀ i : Fin 4, Executes (.readEntryListhead rq) rq s → i.val = index →
        exec (.readEntryListhead rq) s = .next
          (responded rq .ok [1, byteOfAbsentOr s.retention.heads[i]] s))
      ∧ (∀ i : Fin 16, Executes (.readEntryPattern rq) rq s → i.val = index →
        exec (.readEntryPattern rq) s = .next (responded rq .ok [1, s.check.custom[i]] s))
      ∧ (Executes (.readEntryRetention rq) rq s → index < 32 →
        exec (.readEntryRetention rq) s = .next
          (responded rq .ok
            (match s.retention.slots[index]? with
            | some x => 1 :: x.image
            | none => List.replicate 32 0) s))
      ∧ ∀ (c : Instr) (indexes : Nat), (c, indexes) ∈ Rules.tableReads rq → Executes c rq s → indexes ≤ index →
          exec c s = .next (responded rq .badIndex [] s)

/-- The reads of the other tables, and the image of a slot with its context. -/
def Obligations.TableReads : Prop :=
  Rules.TableReads ∧ Rules.SlotImage ∧ Rules.ContextImage

/-- READ_CONTEXT answers the image of the position's working context, or NO_CONTEXT, and changes nothing;
CLEAR_CONTEXT makes it FRESH in the Context Store or supersedes its slot, answers NO_CONTEXT with none, and BUSY in
SAVE and RESTORE; an index outside 0..127 is BAD_INDEX (R41, R56, R57). -/
def Sys2Proof.Rules.ContextOperations : Prop :=
  ∀ (rq : Request) (b : Byte) (s : State), rq.arguments.head? = some b →
    (Executes (.readContext rq) rq s →
        (128 ≤ b.toNat → exec (.readContext rq) s = .next (responded rq .badIndex [] s))
          ∧ ∀ i : Position, i.val = b.toNat →
            (∀ (r : ContextRef) (c : Context), workingContext i s = some r → getContext r s = some c →
                exec (.readContext rq) s = .next (responded rq .ok c.image s))
              ∧ (workingContext i s = none →
                exec (.readContext rq) s = .next (responded rq .noContext [] s)))
      ∧ (Executes (.clearContext rq) rq s →
        (128 ≤ b.toNat → exec (.clearContext rq) s = .next (responded rq .badIndex [] s))
          ∧ ∀ i : Position, i.val = b.toNat →
            (tableLocked s = true → exec (.clearContext rq) s = .next (responded rq .busy [] s))
              ∧ (tableLocked s = false →
                (workingContext i s = none →
                    exec (.clearContext rq) s = .next (responded rq .noContext [] s))
                  ∧ (workingContext i s = some (.store i) →
                    exec (.clearContext rq) s = .next
                      (responded rq .ok []
                        { s with admission := { s.admission with
                            store := s.admission.store.map fun v =>
                              v.set i (freshContext s.table[i] s.clock.now) } }))
                  ∧ ∀ k : Nat, workingContext i s = some (.slot k) →
                    exec (.clearContext rq) s = .next
                      (responded rq .ok []
                        { s with retention := { s.retention with
                            slots := s.retention.slots.map fun x =>
                              if x.index = i then { x with superseded := true } else x } })))

/-- READ_CONTEXT and CLEAR_CONTEXT, and the image of a context. -/
def Obligations.ContextOperations : Prop :=
  Rules.ContextOperations ∧ Rules.ContextImage

/-! ## Management: the other operations -/

/-- SET_PROFILE with a profile code makes a request with source MANAGEMENT and is answered with its outcome; a code
above 2 is BAD_VALUE and makes none (R124). -/
def Sys2Proof.Rules.SetProfileMakesRequest : Prop :=
  ∀ (rq : Request) (b : Byte) (s : State), Executes (.setProfile rq) rq s → rq.arguments.head? = some b →
    (2 < b.toNat → exec (.setProfile rq) s = .next (responded rq .badValue [] s))
      ∧ ∀ p : Profile, p.code = b.toNat →
        let outcome := takeRequest ⟨.management, p⟩ (popRequest s)
        exec (.setProfile rq) s = .next (answer rq outcome.2 [] outcome.1)

/-- MARK makes a capture with cause MARK: CURRENT becomes PREVIOUS, and CURRENT holds the field time; RESTART sets the
restart-due mark; both are answered OK and nothing else changes (R160, R191, R192). -/
def Sys2Proof.Rules.MarkAndRestart : Prop :=
  ∀ (rq : Request) (s : State),
    (Executes (.mark rq) rq s →
        exec (.mark rq) s = .next
          (responded rq .ok []
            { s with clock := { s.clock with
                previous := s.clock.current, current := ⟨s.clock.now, .mark⟩ } }))
      ∧ (Executes (.restart rq) rq s →
        exec (.restart rq) s = .next
          (responded rq .ok [] { s with agent := { s.agent with restartDue := true } }))

/-- CLEAR_EVENTS clears the flags its mask names and requests no notice; bit 31 set is BAD_VALUE and changes nothing
(R190). -/
def Sys2Proof.Rules.ClearEventsClears : Prop :=
  ∀ (rq : Request) (v : Value) (s : State), Executes (.clearEvents rq) rq s → maskOperand rq = some v →
    exec (.clearEvents rq) s = .next
      (if v.getLsbD 31 then responded rq .badValue [] s
      else responded rq .ok []
        { s with agent := { s.agent with status := s.agent.status &&& ~~~(v.setWidth 31) } })

/-- CLEAR_SPUR_ERRORS clears every flag of each named spur; RESUME_SPUR takes each named STALLED engine to IDLE, and one
whose claim waits grants it; a mask with a bit above bit 5 is BAD_VALUE and changes nothing; neither changes anything
else (R95, R106, R114). -/
def Sys2Proof.Rules.SpurMaskOperations : Prop :=
  ∀ (rq : Request) (b : Byte) (s : State), rq.arguments.head? = some b →
    (Executes (.clearSpurErrors rq) rq s →
        (64 ≤ b.toNat → exec (.clearSpurErrors rq) s = .next (responded rq .badValue [] s))
          ∧ (b.toNat < 64 →
            ∃ t : State, exec (.clearSpurErrors rq) s = .next (responded rq .ok [] t)
              ∧ { t with spurs := s.spurs } = s
              ∧ ∀ n : SpurId,
                  t.spurs[n] = if b.getLsbD n.val then { s.spurs[n] with errors := 0 } else s.spurs[n]))
      ∧ (Executes (.resumeSpur rq) rq s →
        (64 ≤ b.toNat → exec (.resumeSpur rq) s = .next (responded rq .badValue [] s))
          ∧ (b.toNat < 64 →
            (∀ n : SpurId, s.spurs[n].engine.claimWaiting = false) →
            ∃ t : State, exec (.resumeSpur rq) s = .next (responded rq .ok [] t)
              ∧ { t with spurs := s.spurs } = s
              ∧ ∀ n : SpurId,
                  t.spurs[n] =
                    if b.getLsbD n.val = true ∧ s.spurs[n].engine.state = .stalled then
                      { s.spurs[n] with engine := { s.spurs[n].engine with state := .idle } }
                    else s.spurs[n])
          ∧ (∀ n : SpurId,
            b.toNat < 64 → (∀ m : SpurId, m ≠ n → s.spurs[m].engine.claimWaiting = false) →
            let named := fun m : SpurId => b.getLsbD m.val = true ∧ s.spurs[m].engine.state = .stalled
            let granted := fun m : SpurId =>
              grantIfDue m (modifySpur m (fun sp => { sp with engine := { sp.engine with state := .idle } }) s)
            ∃ t : State, exec (.resumeSpur rq) s = .next (responded rq .ok [] t)
              ∧ t.check = (if named n then (granted n).check else s.check)
              ∧ ∀ m : SpurId, t.spurs[m] = if named m then (granted m).spurs[m] else s.spurs[m]))

/-- SET_PROFILE, MARK, RESTART, CLEAR_EVENTS, CLEAR_SPUR_ERRORS and RESUME_SPUR. -/
def Obligations.OtherOperations : Prop :=
  Rules.SetProfileMakesRequest ∧ Rules.MarkAndRestart ∧ Rules.ClearEventsClears ∧ Rules.SpurMaskOperations

/-- CHECK_START is BUSY while a check waits or runs, REFUSED with SPUR_NOT_READY when the target is not PRESENT or
STALLED, changing nothing; else the results, number and register are set anew, the outcome is WAITING and the claim is
made, which an IDLE engine grants in the same event. CHECK_STOP withdraws the claim or cuts the TEST off, the outcome
becoming STOPPED, and does nothing in any other outcome (R173, R174, R178). -/
def Obligations.CheckStartAndStop : Prop :=
  ∀ (rq : Request) (s : State),
    let n := s.check.target
    let busy := s.check.outcome = .waiting ∨ s.check.outcome = .running
    let ready := s.spurs[n].presence = .present ∧ s.spurs[n].engine.state ≠ .stalled
    let stopped := { s.check with outcome := .stopped, expected := none }
    (Executes (.checkStart rq) rq s →
        (busy → exec (.checkStart rq) s = .next (responded rq .busy [] s))
          ∧ (¬busy → ¬ready →
            exec (.checkStart rq) s = .next (responded rq (.refused .spurNotReady) [] s))
          ∧ (¬busy → ready →
            exec (.checkStart rq) s = .next
              (responded rq .ok []
                (grantIfDue n
                  { s with
                    spurs := s.spurs.set n
                      { s.spurs[n] with engine := { s.spurs[n].engine with claimWaiting := true } }
                    check := { s.check with
                      sent := 0, mismatched := 0, missing := 0, number := 0, register := 0x1FF
                      expected := none, outcome := .waiting } }))))
      ∧ (Executes (.checkStop rq) rq s →
        (s.check.outcome = .waiting →
            exec (.checkStop rq) s = .next
              (responded rq .ok []
                { s with
                  check := stopped
                  spurs := s.spurs.set n
                    { s.spurs[n] with engine := { s.spurs[n].engine with claimWaiting := false } } }))
          ∧ (s.check.outcome = .running →
            exec (.checkStop rq) s = .next
              (responded rq .ok []
                { s with
                  check := stopped
                  spurs := s.spurs.set n
                    { s.spurs[n] with
                      rx := if s.spurs[n].rx = .own then .waiting else s.spurs[n].rx
                      engine := { s.spurs[n].engine with
                        state := .idle, outstanding := none, timer := none } } }))
          ∧ (¬busy → exec (.checkStop rq) s = .next (responded rq .ok [] s)))

/-! ## Frames -/

/-- The Channel Table changes only by a WRITE_ENTRY or DELETE_ENTRY on CHANNEL and by power-on (R1, R18); field
time only by power-on and by its own wrap; no command changes the queue of commands or the free values (the last:
log 4). -/
def Sys2Proof.Rules.WhatNoCommandChanges : Prop :=
  ∀ (c : Instr) (s t : State), exec c s = .next t →
    t.pending = s.pending ∧ t.freeCount = s.freeCount
      ∧ ((∀ rq : Request, c ≠ .writeEntryChannel rq ∧ c ≠ .deleteEntryChannel rq) →
          (∀ pins : Pins, c ≠ .powerOn pins) → t.table = s.table)
      ∧ ((∀ pins : Pins, c ≠ .powerOn pins) → c ≠ .timeWrap → t.clock.now = s.clock.now)

/-- What the commands of each kind leave alone. Those of one spur's line leave every other spur and every block but the
line check as they were, and of the Management Agent and the Arbiter all but the event status and the notice flag; so
does a change of the gate, which reaches all spurs. The writes of drive and presence settings and the spur-mask and line
check operations leave every block but the spurs, the gate polarity and the line check as they were, and of the
Management Agent and the Arbiter all but the event status, the notice flag and the queues of requests and responses (R88
to R116, R170 to R179). The commands of the profiles, the requests of SET_PROFILE, the WAKE pin and the wake compare,
and the wrap of field time keep every table and setting, the trunk and the silence watch (R117 to R158, R163). -/
def Sys2Proof.Rules.FramesOfCommands : Prop :=
  ∀ (c : Instr) (s t : State), exec c s = .next t →
    let spurOnly := t.table = s.table ∧ t.trunk = s.trunk ∧ t.admission = s.admission ∧ t.hold = s.hold
      ∧ t.profiles = s.profiles ∧ t.retention = s.retention ∧ t.clock = s.clock ∧ t.watch = s.watch
    let settings := t.table = s.table ∧ t.trunk = s.trunk ∧ t.watch = s.watch
      ∧ t.admission.forwardUp = s.admission.forwardUp ∧ t.admission.floodDown = s.admission.floodDown
      ∧ t.hold.marks = s.hold.marks ∧ t.hold.maxAge = s.hold.maxAge
      ∧ t.spurLines.gateInverted = s.spurLines.gateInverted
      ∧ (∀ n : SpurId,
          t.spurs[n].force = s.spurs[n].force ∧ t.spurs[n].follow = s.spurs[n].follow
            ∧ t.spurs[n].settle = s.spurs[n].settle ∧ t.spurs[n].earlyLeave = s.spurs[n].earlyLeave
            ∧ t.spurs[n].responseWindow = s.spurs[n].responseWindow
            ∧ t.spurs[n].closeWindow = s.spurs[n].closeWindow ∧ t.spurs[n].burstGap = s.spurs[n].burstGap)
      ∧ t.profiles.records = s.profiles.records ∧ t.profiles.transitions = s.profiles.transitions
      ∧ t.profiles.wakeTarget = s.profiles.wakeTarget
      ∧ t.retention.descriptors = s.retention.descriptors ∧ t.retention.heads = s.retention.heads
      ∧ t.clock.compareTarget = s.clock.compareTarget ∧ t.clock.wakeActiveLow = s.clock.wakeActiveLow
      ∧ t.check.target = s.check.target ∧ t.check.station = s.check.station
      ∧ t.check.pattern = s.check.pattern ∧ t.check.length = s.check.length
      ∧ t.check.count = s.check.count ∧ t.check.custom = s.check.custom
      ∧ t.agent.record = s.agent.record ∧ t.agent.notify = s.agent.notify
      ∧ t.agent.spurSelect = s.agent.spurSelect
      ∧ t.agent.overrideAddress = s.agent.overrideAddress ∧ t.agent.overrideEnabled = s.agent.overrideEnabled
    let events := t.agent = { s.agent with status := t.agent.status }
      ∧ t.arbiter = { s.arbiter with notice := t.arbiter.notice }
    let answered := t.agent = { s.agent with status := t.agent.status, requests := t.agent.requests }
      ∧ t.arbiter = { s.arbiter with notice := t.arbiter.notice, responses := t.arbiter.responses }
    match c with
    | .lineSenseChange n _ =>
      spurOnly ∧ events ∧ t.spurLines = s.spurLines ∧ ∀ m : SpurId, m ≠ n → t.spurs[m] = s.spurs[m]
    | .settleTimerExpiry n | .engineTakeCopy n | .claimGrant n | .commandTransmitComplete n
    | .closeTransmitComplete n | .testTransmitComplete n | .commandConflict n | .closeConflict n
    | .testConflict n | .responseWindowExpiry n | .burstGapExpiry n | .closeWindowExpiry n
    | .echoWindowExpiry n =>
      spurOnly ∧ events ∧ t.pins = s.pins ∧ t.spurLines = s.spurLines ∧ ∀ m : SpurId, m ≠ n → t.spurs[m] = s.spurs[m]
    | .spurGateChange _ => spurOnly ∧ events ∧ t.spurLines = s.spurLines
    | .writeGatePolarity _ => spurOnly ∧ answered ∧ t.pins = s.pins
    | .writeForce _ | .writeFollow _ | .writeSettle _ | .writeEarlyLeave _ | .clearSpurLost _
    | .clearSpurErrors _ | .resumeSpur _ | .checkStart _ | .checkStop _ =>
      spurOnly ∧ answered ∧ t.pins = s.pins ∧ t.spurLines = s.spurLines
    | .dormancyExpiry | .drainComplete | .drainLimitExpiry | .saveWalkStep | .restoreWalkStep
    | .settleWaitExpiry | .setProfile _ | .wakeCompareFire | .timeWrap => settings ∧ t.pins = s.pins
    | .wakePinEdge _ => settings
    | _ => True

/-- Every command answers a next state, and what the commands leave alone. -/
def Obligations.EveryCommandCompletes : Prop :=
  Rules.NothingStops ∧ Rules.WhatNoCommandChanges ∧ Rules.FramesOfCommands

/-! ## The laws -/

/-- The part after power-on keeps every law. -/
def Obligations.ResetIsLawful : Prop := Lawful State.reset

/-- No step makes a queue hold more than its places. -/
def Sys2Proof.Rules.StepKeepsCapacity : Prop := ∀ s t : State, Lawful s → step s = .next t → CapacityLaw t

/-- Every event set in the event status stays record-enabled through every step. -/
def Sys2Proof.Rules.StepKeepsEventLaw : Prop := ∀ s t : State, Lawful s → step s = .next t → EventLaw t

/-- No step overfills a queue or records an event that is not record-enabled. -/
def Obligations.StepKeepsCapacityAndEvents : Prop :=
  Rules.StepKeepsCapacity ∧ Rules.StepKeepsEventLaw

/-- No step gives two positions one channel and direction, or an entry a field out of range. -/
def Obligations.StepKeepsTableLaw : Prop := ∀ s t : State, Lawful s → step s = .next t → TableLaw t

/-- Every step keeps the profiles equal outside a transition and as its phase demands inside one, a pending request
above the transition's target, and the Context Store powered outside NIGHT alone. -/
def Obligations.StepKeepsProfileLaw : Prop := ∀ s t : State, Lawful s → step s = .next t → ProfileLaw t

/-- Every step keeps each Spur Port's drive, presence, engine, timers and records in agreement, and the line check's
target with them. -/
def Obligations.StepKeepsSpurLaw : Prop := ∀ s t : State, Lawful s → step s = .next t → SpurLaw t

/-- Every step keeps the directory's slots distinct and LIVE, and empty outside NIGHT, SAVE and RESTORE. -/
def Sys2Proof.Rules.StepKeepsDirectoryLaw : Prop := ∀ s t : State, Lawful s → step s = .next t → DirectoryLaw t

/-- Every step keeps every held frame with a valid entry of its direction. -/
def Obligations.StepKeepsHoldLaw : Prop := ∀ s t : State, Lawful s → step s = .next t → HoldLaw t

/-- No step gives a context more tokens than its entry's policer depth. -/
def Sys2Proof.Rules.StepKeepsTokenLaw : Prop := ∀ s t : State, Lawful s → step s = .next t → TokenLaw t

/-- Every step keeps the directory's slots distinct and LIVE, and every context's tokens within its policer's
depth. -/
def Obligations.StepKeepsDirectoryAndTokens : Prop :=
  Rules.StepKeepsDirectoryLaw ∧ Rules.StepKeepsTokenLaw

/-- Every step keeps the silence watch OFF exactly while it is disabled, and every setting in its range. -/
def Obligations.StepKeepsWatchAndSettings : Prop :=
  ∀ s t : State, Lawful s → step s = .next t → WatchLaw t ∧ SettingsLaw t

/-- A part held in reset stays without work, drive and engines through every step. -/
def Obligations.StepKeepsHeldLaw : Prop := ∀ s t : State, Lawful s → step s = .next t → HeldLaw t

/-! ## The operations that the statements above name -/

/-- The codes that statuses, attributes, images and notices carry, and the numbers of the events (R33, R115, R117, R123,
R133, R160, R165, R170, R183, R188). -/
def Sys2Proof.Rules.Codes : Prop :=
  [Profile.night, .dusk, .day].map Profile.code = [0, 1, 2]
    ∧ [Phase.drain, .save, .restore, .settle].map Phase.code = [1, 2, 4, 5]
    ∧ [Source.management, .wakePin, .wakeTime, .wakeFrame, .dormancy, .trunkWatch].map Source.code
        = [0, 1, 2, 3, 4, 5]
    ∧ [Cause.notPermitted, .holdHigh, .checkRunning, .malformedList, .spurNotReady].map Cause.code
        = [1, 2, 3, 4, 5]
    ∧ [CaptureCause.none, .transitionStart, .transitionEnd, .wakePin, .mark, .warmReset, .trunkQuiet].map
        CaptureCause.code = [0, 1, 2, 3, 4, 5, 6]
    ∧ [EngineState.off, .idle, .sending, .awaitingResponse, .inBurst, .closing, .awaitingCloseAck, .stalled,
        .checking].map EngineState.code = [0, 1, 2, 3, 4, 5, 6, 7, 8]
    ∧ [Presence.absent, .arriving, .present, .leaving].map Presence.code = [0, 1, 2, 3]
    ∧ [WatchAction.none, .fallback, .reset].map WatchAction.code = [0, 1, 2]
    ∧ [WatchStage.off, .counting, .quiet, .done].map WatchStage.code = [0, 1, 2, 3]
    ∧ [Pattern.zeros, .ones, .alternate, .count, .pseudo, .custom].map Pattern.code = [0, 1, 2, 3, 4, 5]
    ∧ [CheckOutcome.none, .waiting, .running, .done, .stopped, .aborted].map CheckOutcome.code
        = [0, 1, 2, 3, 4, 5]
    ∧ [Status.ok, .busy, .badTable, .badIndex, .badValue, .duplicate, .pending, .noContext, .unknownOp].map
        Status.bytes = [[0], [1], [2], [3], [4], [5], [7], [8], [9]]
    ∧ (∀ c : Cause, (Status.refused c).bytes = [6, BitVec.ofNat 8 c.code])
    ∧ [Event.restarted, .transitionStart, .transitionEnd, .transitionRefused, .drainExpired, .saveOverflow,
        .restoreSkipped, .holdMark 0, .holdMark 1, .holdMark 2, .holdMark 3, .holdOverflow, .holdExpired, .wakePin,
        .wakeTime, .wakeFrame, .trunkQuiet, .trunkAction, .trunkError, .queueDrop, .mgmtOverflow, .checkDone,
        .checkError, .timeWrap, .spurError 0, .spurError 1, .spurError 2, .spurError 3, .spurError 4, .spurError 5,
        .presenceChange].map Event.number = List.range 31

/-- Intervals, counters, sets of spurs, the station address and the START profile (00_scope, R29, R117, R159). -/
def Sys2Proof.Rules.SmallReadings : Prop :=
  (∀ start now : Time, elapsed start now = (now.toNat + 2 ^ 40 - start.toNat) % 2 ^ 40)
    ∧ (∀ (c : Count16) (k : Nat), (satAdd c k).toNat = min (c.toNat + k) 65535)
    ∧ (∀ (n : SpurId) (x : SpurSet), inSet n x = x.getLsbD n.val)
    ∧ (∀ s : State, station s =
      if s.agent.overrideEnabled then s.agent.overrideAddress else 0xA0 + s.agent.straps.addr.setWidth 8)
    ∧ (∀ x : Straps, startProfile x = if x.start then .dusk else .day)
    ∧ (∀ s : State, restartWatch s =
      if s.watch.enabled then
        { s with watch := { s.watch with stage := .counting, episodeStart := s.clock.now } }
      else s)
    ∧ ∀ (r : HeldFrame) (s : State),
        aged s r = true ↔ s.hold.maxAge ≠ 0 ∧ s.hold.maxAge ≤ elapsed r.arrival s.clock.now

/-- The records of the profiles and transitions, the phase, and which spurs are closing (R16, R118, R120, R129, R132 to
R134). -/
def Sys2Proof.Rules.ProfileReadings : Prop :=
  ∀ s : State,
    (profileRecord .night s = s.profiles.records[0] ∧ profileRecord .dusk s = s.profiles.records[1]
        ∧ profileRecord .day s = s.profiles.records[2])
      ∧ (transitionRecord .day .dusk s = s.profiles.transitions[0]
        ∧ transitionRecord .day .night s = s.profiles.transitions[1]
        ∧ transitionRecord .dusk .day s = s.profiles.transitions[2]
        ∧ transitionRecord .dusk .night s = s.profiles.transitions[3]
        ∧ transitionRecord .night .day s = s.profiles.transitions[4]
        ∧ transitionRecord .night .dusk s = s.profiles.transitions[5])
      ∧ (∀ p : Phase, phase s = some p ↔ ∃ x : Transition, s.profiles.transition = some x ∧ x.phase = p)
      ∧ (∀ n : SpurId, isClosing n s = true ↔
        ∃ x : Transition, s.profiles.transition = some x ∧ inSet n x.closing = true)
      ∧ (∀ e : Entry, isLive e s = e.live.getLsbD s.profiles.admission.code)
      ∧ (tableLocked s = true ↔ phase s = some .save ∨ phase s = some .restore)
      ∧ (dormancyDue s = true ↔
        s.profiles.transition = none
          ∧ ∃ start : Time, s.profiles.dormancy = some start
            ∧ (profileRecord s.profiles.applied s).timeout ≠ 0
            ∧ (profileRecord s.profiles.applied s).timeout ≤ elapsed start s.clock.now)

/-- A FRESH context, the slots of a position, what a save list covers, and what the save walk copies (R39, R41, R44,
R45, R145, R146, R149). -/
def Sys2Proof.Rules.RetentionReadings : Prop :=
  (∀ (e : Option Entry) (now : Time), freshContext e now =
      ⟨false, none, (e.bind Entry.policer).elim 0 Policer.depth, now, 0, 0, 0, 0, 0, 0, none⟩)
    ∧ ∀ (i : Position) (s : State),
        (∀ k : Nat, slotOf i s = some k ↔
            (∃ x : Slot, s.retention.slots[k]? = some x ∧ x.index = i)
              ∧ ∀ (j : Nat) (y : Slot), j < k → s.retention.slots[j]? = some y → y.index ≠ i)
          ∧ (∀ k : Nat, goodSlotOf i s = some k ↔
            (∃ x : Slot, s.retention.slots[k]? = some x ∧ x.index = i ∧ x.superseded = false)
              ∧ ∀ (j : Nat) (y : Slot), j < k → s.retention.slots[j]? = some y →
                  y.index ≠ i ∨ y.superseded = true)
          ∧ (covered i s = true ↔
            ∃ (x : Transition) (head : Fin 4) (walk : List Position),
              s.profiles.transition = some x ∧ (transitionRecord x.source x.target s).saveList = some head
                ∧ walkOrder head s = some walk ∧ i ∈ walk)
          ∧ (copyable i s = true ↔
            s.table[i] ≠ none ∧ slotOf i s = none
              ∧ ∃ v : Vector Context 128, s.admission.store = some v ∧ v[i].live = true)

/-- An exchange ends as a success: IDLE without a burst and with one whose auto close is off, a waiting claim then
granted; with auto close on, CLOSING with the burst's CLOSE sent (R95, R101, R104). -/
def Sys2Proof.Rules.ExchangeSucceeds : Prop :=
  ∀ (n : SpurId) (s : State),
    (s.spurs[n].engine.burst.all (fun b => !b.autoClose) = true →
        endSuccess n s = grantIfDue n
          (modifySpur n
            (fun sp => { sp with
              engine := { sp.engine with state := .idle, outstanding := none, burst := none, timer := none } }) s))
      ∧ ∀ b : Burst, s.spurs[n].engine.burst = some b → b.autoClose = true →
          endSuccess n s = modifySpur n
            (fun sp => { sp with
              rx := .own
              engine := { sp.engine with
                state := .closing, timer := none
                outstanding :=
                  some ⟨⟨b.station, station s, .close, false, false, b.channel, b.lastSequence, []⟩,
                    false, false⟩ } }) s

/-- The tables that READ_ENTRY, WRITE_ENTRY and DELETE_ENTRY take, each with its table code and its row (R32, R183). -/
def Sys2Proof.Rules.entryRows (rq : Request) : List (Nat × Nat × Instr) :=
  [(0x03, 1, .readEntryChannel rq), (0x03, 2, .readEntryProfile rq), (0x03, 3, .readEntryTransition rq),
    (0x03, 4, .readEntryDescriptor rq), (0x03, 5, .readEntryListhead rq), (0x03, 6, .readEntryPattern rq),
    (0x03, 7, .readEntryRetention rq), (0x04, 1, .writeEntryChannel rq), (0x04, 2, .writeEntryProfile rq),
    (0x04, 3, .writeEntryTransition rq), (0x04, 4, .writeEntryDescriptor rq), (0x04, 5, .writeEntryListhead rq),
    (0x04, 6, .writeEntryPattern rq), (0x05, 1, .deleteEntryChannel rq), (0x05, 4, .deleteEntryDescriptor rq)]

/-- The attributes whose WRITE_ATTR has a row of its own: identifier, the index where the row is that of one index, and
the row (R185; log 17). -/
def Sys2Proof.Rules.attributeRows (rq : Request) : List (Nat × Option Nat × Instr) :=
  [(0x0003, none, .writeStationOverride rq), (0x0022, none, .clearMissCountUp rq),
    (0x0023, none, .clearMissCountDown rq), (0x0034, none, .writeHoldMaxAge rq),
    (0x0036, none, .clearHoldDiscards rq), (0x0041, none, .writeRecordEnable rq),
    (0x0053, some 0, .writeWakeCompareHigh rq), (0x0053, some 1, .writeWakeCompareLow rq),
    (0x0055, none, .writeGatePolarity rq), (0x0056, some 0, .writeWatchEnable rq),
    (0x0056, some 1, .writeWatchMode rq), (0x0056, some 2, .writeQuietThreshold rq),
    (0x0056, some 3, .writeActionThreshold rq), (0x0100, none, .writeForce rq), (0x0101, none, .writeFollow rq),
    (0x0104, none, .writeSettle rq), (0x0105, none, .writeEarlyLeave rq), (0x010C, none, .clearSpurLost rq)]

/-- The row that each request spells: by its operation; of a table operation by its table code, BAD_TABLE_REQUEST where
the table is none that takes it; of a WRITE_ATTR by identifier and index (R32, R183, R185). Which row a request spells
whose bytes are missing, and that an attribute's row is its own for every index, is DEDUCED (log 17). -/
def Sys2Proof.Rules.RequestRows : Prop :=
  ∀ rq : Request,
    let code := rq.operation.toNat
    let table := (rq.arguments.headD 0).toNat
    let row := Instr.ofRequest rq
    (∀ c : Instr,
        (code, c) ∈ [(0x01, .readAttr rq), (0x06, .readContext rq), (0x07, .clearContext rq), (0x08, .setProfile rq),
          (0x09, .mark rq), (0x0A, .clearEvents rq), (0x0B, .clearSpurErrors rq), (0x0C, .resumeSpur rq),
          (0x0D, .checkStart rq), (0x0E, .checkStop rq), (0x0F, .restart rq)] → row = c)
      ∧ (code = 0 ∨ 0x0F < code → row = .unknownOp rq)
      ∧ (∀ c : Instr, (code, table, c) ∈ Rules.entryRows rq → row = c)
      ∧ (code = 0x03 ∨ code = 0x04 ∨ code = 0x05 →
        (∀ x ∈ Rules.entryRows rq, x.1 = code → x.2.1 ≠ table) → row = .badTableRequest rq)
      ∧ (code = 0x02 → writeOperands rq = none → row = .writeAttr rq)
      ∧ ∀ (identifier index : Nat) (v : Value), code = 0x02 → writeOperands rq = some (identifier, index, v) →
          (∀ (own : Option Nat) (c : Instr), (identifier, own, c) ∈ Rules.attributeRows rq →
              own = none ∨ own = some index → row = c)
            ∧ ((∀ x ∈ Rules.attributeRows rq, x.1 = identifier → x.2.1 ≠ none ∧ x.2.1 ≠ some index) →
              row = .writeAttr rq)

/-- Where a request has its operands: operation and tag in its first two bytes, then the argument bytes, each number
with its most significant byte first; an operand with bytes missing is none, and bytes beyond the operands are not read
(00_scope, R32, R34, R183, R184). -/
def Sys2Proof.Rules.RequestOperands : Prop :=
  (∀ rq : Request,
      let a := rq.arguments
      let number := fun first length : Nat =>
        ((a.drop first).take length).foldl (fun n b => 256 * n + b.toNat) 0
      let given := fun {α : Type} (length : Nat) (x : α) => if a.length < length then none else some x
      rq.operation = rq.payload.getD 0 0 ∧ rq.tag = rq.payload.getD 1 0 ∧ a = rq.payload.drop 2
        ∧ rq.table = (a.getD 0 0).toNat
        ∧ readOperands rq = given 3 (number 0 2, number 2 1)
        ∧ writeOperands rq = given 7 (number 0 2, number 2 1, BitVec.ofNat 32 (number 3 4))
        ∧ entryIndex rq = given 2 (number 1 1)
        ∧ (∀ length : Nat, entryImage rq length = given (2 + length) (number 1 1, (a.drop 2).take length))
        ∧ maskOperand rq = given 4 (BitVec.ofNat 32 (number 0 4)))
    ∧ (List.range 8).map imageLength = [0, 13, 4, 9, 3, 1, 1, 31]
    ∧ (∀ k : Nat, 7 < k → imageLength k = 0)
    ∧ ∀ (n : Nat) (b : Byte) (k : Option (Fin n)), n ≤ 16 →
        (absentOr n b = some k ↔ k.elim (b = 0xFF) fun i => b.toNat = i.val)
          ∧ byteOfAbsentOr k = k.elim 0xFF fun i => BitVec.ofNat 8 i.val

/-- The head request leaves the request queue, and a response is appended: to the request's source, from the station
address then, with operation, tag, status and result (R31, R33, R81, R181). -/
def Sys2Proof.Rules.ResponseBuilt : Prop :=
  ∀ (rq : Request) (status : Status) (result : List Byte) (s : State),
    popRequest s = { s with agent := { s.agent with requests := s.agent.requests.tail } }
      ∧ answer rq status result s =
          { s with
            arbiter :=
              { s.arbiter with
                responses :=
                  s.arbiter.responses
                    ++ [⟨rq.source, station s, [rq.operation, rq.tag] ++ status.bytes ++ result⟩] } }

/-- What the operations that other statements name compute, which row a request spells, and where its operands stand. -/
def Obligations.NamedOperations : Prop :=
  Rules.Codes ∧ Rules.SmallReadings ∧ Rules.ProfileReadings ∧ Rules.RetentionReadings ∧ Rules.ExchangeSucceeds
    ∧ Rules.RequestRows ∧ Rules.RequestOperands ∧ Rules.ResponseBuilt
end

