-- ==== Sys2Proof/Laws/State.lean ====
section
/-! SUPPORT. The frame of every primitive update of the state: which blocks it leaves alone. -/

namespace Sys2Proof.Machine

@[simp] theorem raise_frame (e : Event) (s : State) :
    (raise e s).pins = s.pins
    ∧ (raise e s).held = s.held
    ∧ (raise e s).trunk = s.trunk
    ∧ (raise e s).table = s.table
    ∧ (raise e s).admission = s.admission
    ∧ (raise e s).hold = s.hold
    ∧ (raise e s).spurLines = s.spurLines
    ∧ (raise e s).spurs = s.spurs
    ∧ (raise e s).profiles = s.profiles
    ∧ (raise e s).retention = s.retention
    ∧ (raise e s).clock = s.clock
    ∧ (raise e s).watch = s.watch
    ∧ (raise e s).check = s.check
    ∧ (raise e s).freeCount = s.freeCount
    ∧ (raise e s).pending = s.pending := by
  exact ⟨rfl, rfl, rfl, rfl, rfl, rfl, rfl, rfl, rfl, rfl, rfl, rfl, rfl, rfl, rfl⟩

@[simp] theorem modifySpur_frame (n : SpurId) (f : Spur → Spur) (s : State) :
    (modifySpur n f s).pins = s.pins
    ∧ (modifySpur n f s).held = s.held
    ∧ (modifySpur n f s).trunk = s.trunk
    ∧ (modifySpur n f s).table = s.table
    ∧ (modifySpur n f s).admission = s.admission
    ∧ (modifySpur n f s).hold = s.hold
    ∧ (modifySpur n f s).arbiter = s.arbiter
    ∧ (modifySpur n f s).spurLines = s.spurLines
    ∧ (modifySpur n f s).profiles = s.profiles
    ∧ (modifySpur n f s).retention = s.retention
    ∧ (modifySpur n f s).clock = s.clock
    ∧ (modifySpur n f s).watch = s.watch
    ∧ (modifySpur n f s).check = s.check
    ∧ (modifySpur n f s).agent = s.agent
    ∧ (modifySpur n f s).freeCount = s.freeCount
    ∧ (modifySpur n f s).pending = s.pending := by
  exact ⟨rfl, rfl, rfl, rfl, rfl, rfl, rfl, rfl, rfl, rfl, rfl, rfl, rfl, rfl, rfl, rfl⟩

@[simp] theorem capture_frame (c : CaptureCause) (s : State) :
    (capture c s).pins = s.pins
    ∧ (capture c s).held = s.held
    ∧ (capture c s).trunk = s.trunk
    ∧ (capture c s).table = s.table
    ∧ (capture c s).admission = s.admission
    ∧ (capture c s).hold = s.hold
    ∧ (capture c s).arbiter = s.arbiter
    ∧ (capture c s).spurLines = s.spurLines
    ∧ (capture c s).spurs = s.spurs
    ∧ (capture c s).profiles = s.profiles
    ∧ (capture c s).retention = s.retention
    ∧ (capture c s).watch = s.watch
    ∧ (capture c s).check = s.check
    ∧ (capture c s).agent = s.agent
    ∧ (capture c s).freeCount = s.freeCount
    ∧ (capture c s).pending = s.pending := by
  exact ⟨rfl, rfl, rfl, rfl, rfl, rfl, rfl, rfl, rfl, rfl, rfl, rfl, rfl, rfl, rfl, rfl⟩

@[simp] theorem modifyStore_frame (i : Position) (f : Context → Context) (s : State) :
    (modifyStore i f s).pins = s.pins
    ∧ (modifyStore i f s).held = s.held
    ∧ (modifyStore i f s).trunk = s.trunk
    ∧ (modifyStore i f s).table = s.table
    ∧ (modifyStore i f s).hold = s.hold
    ∧ (modifyStore i f s).arbiter = s.arbiter
    ∧ (modifyStore i f s).spurLines = s.spurLines
    ∧ (modifyStore i f s).spurs = s.spurs
    ∧ (modifyStore i f s).profiles = s.profiles
    ∧ (modifyStore i f s).retention = s.retention
    ∧ (modifyStore i f s).clock = s.clock
    ∧ (modifyStore i f s).watch = s.watch
    ∧ (modifyStore i f s).check = s.check
    ∧ (modifyStore i f s).agent = s.agent
    ∧ (modifyStore i f s).freeCount = s.freeCount
    ∧ (modifyStore i f s).pending = s.pending := by
  exact ⟨rfl, rfl, rfl, rfl, rfl, rfl, rfl, rfl, rfl, rfl, rfl, rfl, rfl, rfl, rfl, rfl⟩

@[simp] theorem modifySlot_frame (k : Nat) (f : Slot → Slot) (s : State) :
    (modifySlot k f s).pins = s.pins
    ∧ (modifySlot k f s).held = s.held
    ∧ (modifySlot k f s).trunk = s.trunk
    ∧ (modifySlot k f s).table = s.table
    ∧ (modifySlot k f s).admission = s.admission
    ∧ (modifySlot k f s).hold = s.hold
    ∧ (modifySlot k f s).arbiter = s.arbiter
    ∧ (modifySlot k f s).spurLines = s.spurLines
    ∧ (modifySlot k f s).spurs = s.spurs
    ∧ (modifySlot k f s).profiles = s.profiles
    ∧ (modifySlot k f s).clock = s.clock
    ∧ (modifySlot k f s).watch = s.watch
    ∧ (modifySlot k f s).check = s.check
    ∧ (modifySlot k f s).agent = s.agent
    ∧ (modifySlot k f s).freeCount = s.freeCount
    ∧ (modifySlot k f s).pending = s.pending := by
  exact ⟨rfl, rfl, rfl, rfl, rfl, rfl, rfl, rfl, rfl, rfl, rfl, rfl, rfl, rfl, rfl, rfl⟩

@[simp] theorem freshenContext_frame (i : Position) (s : State) :
    (freshenContext i s).pins = s.pins
    ∧ (freshenContext i s).held = s.held
    ∧ (freshenContext i s).trunk = s.trunk
    ∧ (freshenContext i s).table = s.table
    ∧ (freshenContext i s).hold = s.hold
    ∧ (freshenContext i s).arbiter = s.arbiter
    ∧ (freshenContext i s).spurLines = s.spurLines
    ∧ (freshenContext i s).spurs = s.spurs
    ∧ (freshenContext i s).profiles = s.profiles
    ∧ (freshenContext i s).retention = s.retention
    ∧ (freshenContext i s).clock = s.clock
    ∧ (freshenContext i s).watch = s.watch
    ∧ (freshenContext i s).check = s.check
    ∧ (freshenContext i s).agent = s.agent
    ∧ (freshenContext i s).freeCount = s.freeCount
    ∧ (freshenContext i s).pending = s.pending := by
  exact ⟨rfl, rfl, rfl, rfl, rfl, rfl, rfl, rfl, rfl, rfl, rfl, rfl, rfl, rfl, rfl, rfl⟩

@[simp] theorem supersede_frame (i : Position) (s : State) :
    (supersede i s).pins = s.pins
    ∧ (supersede i s).held = s.held
    ∧ (supersede i s).trunk = s.trunk
    ∧ (supersede i s).table = s.table
    ∧ (supersede i s).admission = s.admission
    ∧ (supersede i s).hold = s.hold
    ∧ (supersede i s).arbiter = s.arbiter
    ∧ (supersede i s).spurLines = s.spurLines
    ∧ (supersede i s).spurs = s.spurs
    ∧ (supersede i s).profiles = s.profiles
    ∧ (supersede i s).clock = s.clock
    ∧ (supersede i s).watch = s.watch
    ∧ (supersede i s).check = s.check
    ∧ (supersede i s).agent = s.agent
    ∧ (supersede i s).freeCount = s.freeCount
    ∧ (supersede i s).pending = s.pending := by
  exact ⟨rfl, rfl, rfl, rfl, rfl, rfl, rfl, rfl, rfl, rfl, rfl, rfl, rfl, rfl, rfl, rfl⟩

@[simp] theorem emptyQueue_frame (n : SpurId) (s : State) :
    (emptyQueue n s).pins = s.pins
    ∧ (emptyQueue n s).held = s.held
    ∧ (emptyQueue n s).trunk = s.trunk
    ∧ (emptyQueue n s).table = s.table
    ∧ (emptyQueue n s).admission = s.admission
    ∧ (emptyQueue n s).hold = s.hold
    ∧ (emptyQueue n s).arbiter = s.arbiter
    ∧ (emptyQueue n s).spurLines = s.spurLines
    ∧ (emptyQueue n s).profiles = s.profiles
    ∧ (emptyQueue n s).retention = s.retention
    ∧ (emptyQueue n s).clock = s.clock
    ∧ (emptyQueue n s).watch = s.watch
    ∧ (emptyQueue n s).check = s.check
    ∧ (emptyQueue n s).agent = s.agent
    ∧ (emptyQueue n s).freeCount = s.freeCount
    ∧ (emptyQueue n s).pending = s.pending := by
  exact ⟨rfl, rfl, rfl, rfl, rfl, rfl, rfl, rfl, rfl, rfl, rfl, rfl, rfl, rfl, rfl, rfl⟩

@[simp] theorem restartDormancy_frame (s : State) :
    (restartDormancy s).pins = s.pins
    ∧ (restartDormancy s).held = s.held
    ∧ (restartDormancy s).trunk = s.trunk
    ∧ (restartDormancy s).table = s.table
    ∧ (restartDormancy s).admission = s.admission
    ∧ (restartDormancy s).hold = s.hold
    ∧ (restartDormancy s).arbiter = s.arbiter
    ∧ (restartDormancy s).spurLines = s.spurLines
    ∧ (restartDormancy s).spurs = s.spurs
    ∧ (restartDormancy s).retention = s.retention
    ∧ (restartDormancy s).clock = s.clock
    ∧ (restartDormancy s).watch = s.watch
    ∧ (restartDormancy s).check = s.check
    ∧ (restartDormancy s).agent = s.agent
    ∧ (restartDormancy s).freeCount = s.freeCount
    ∧ (restartDormancy s).pending = s.pending := by
  exact ⟨rfl, rfl, rfl, rfl, rfl, rfl, rfl, rfl, rfl, rfl, rfl, rfl, rfl, rfl, rfl, rfl⟩

@[simp] theorem answer_frame (rq : Request) (x : Status) (r : List Byte) (s : State) :
    (answer rq x r s).pins = s.pins
    ∧ (answer rq x r s).held = s.held
    ∧ (answer rq x r s).trunk = s.trunk
    ∧ (answer rq x r s).table = s.table
    ∧ (answer rq x r s).admission = s.admission
    ∧ (answer rq x r s).hold = s.hold
    ∧ (answer rq x r s).spurLines = s.spurLines
    ∧ (answer rq x r s).spurs = s.spurs
    ∧ (answer rq x r s).profiles = s.profiles
    ∧ (answer rq x r s).retention = s.retention
    ∧ (answer rq x r s).clock = s.clock
    ∧ (answer rq x r s).watch = s.watch
    ∧ (answer rq x r s).check = s.check
    ∧ (answer rq x r s).agent = s.agent
    ∧ (answer rq x r s).freeCount = s.freeCount
    ∧ (answer rq x r s).pending = s.pending := by
  exact ⟨rfl, rfl, rfl, rfl, rfl, rfl, rfl, rfl, rfl, rfl, rfl, rfl, rfl, rfl, rfl, rfl⟩

@[simp] theorem abortCheck_frame (s : State) :
    (abortCheck s).pins = s.pins
    ∧ (abortCheck s).held = s.held
    ∧ (abortCheck s).trunk = s.trunk
    ∧ (abortCheck s).table = s.table
    ∧ (abortCheck s).admission = s.admission
    ∧ (abortCheck s).hold = s.hold
    ∧ (abortCheck s).spurLines = s.spurLines
    ∧ (abortCheck s).spurs = s.spurs
    ∧ (abortCheck s).profiles = s.profiles
    ∧ (abortCheck s).retention = s.retention
    ∧ (abortCheck s).clock = s.clock
    ∧ (abortCheck s).watch = s.watch
    ∧ (abortCheck s).freeCount = s.freeCount
    ∧ (abortCheck s).pending = s.pending := by
  exact ⟨rfl, rfl, rfl, rfl, rfl, rfl, rfl, rfl, rfl, rfl, rfl, rfl, rfl, rfl⟩

@[simp] theorem gainEngine_frame (n : SpurId) (s : State) :
    (gainEngine n s).pins = s.pins
    ∧ (gainEngine n s).held = s.held
    ∧ (gainEngine n s).trunk = s.trunk
    ∧ (gainEngine n s).table = s.table
    ∧ (gainEngine n s).admission = s.admission
    ∧ (gainEngine n s).hold = s.hold
    ∧ (gainEngine n s).arbiter = s.arbiter
    ∧ (gainEngine n s).spurLines = s.spurLines
    ∧ (gainEngine n s).profiles = s.profiles
    ∧ (gainEngine n s).retention = s.retention
    ∧ (gainEngine n s).clock = s.clock
    ∧ (gainEngine n s).watch = s.watch
    ∧ (gainEngine n s).check = s.check
    ∧ (gainEngine n s).agent = s.agent
    ∧ (gainEngine n s).freeCount = s.freeCount
    ∧ (gainEngine n s).pending = s.pending := by
  exact ⟨rfl, rfl, rfl, rfl, rfl, rfl, rfl, rfl, rfl, rfl, rfl, rfl, rfl, rfl, rfl, rfl⟩

@[simp] theorem recordSense_frame (n : SpurId) (level : Bool) (s : State) :
    (recordSense n level s).held = s.held
    ∧ (recordSense n level s).trunk = s.trunk
    ∧ (recordSense n level s).table = s.table
    ∧ (recordSense n level s).admission = s.admission
    ∧ (recordSense n level s).hold = s.hold
    ∧ (recordSense n level s).arbiter = s.arbiter
    ∧ (recordSense n level s).spurLines = s.spurLines
    ∧ (recordSense n level s).spurs = s.spurs
    ∧ (recordSense n level s).profiles = s.profiles
    ∧ (recordSense n level s).retention = s.retention
    ∧ (recordSense n level s).clock = s.clock
    ∧ (recordSense n level s).watch = s.watch
    ∧ (recordSense n level s).check = s.check
    ∧ (recordSense n level s).agent = s.agent
    ∧ (recordSense n level s).freeCount = s.freeCount
    ∧ (recordSense n level s).pending = s.pending := by
  exact ⟨rfl, rfl, rfl, rfl, rfl, rfl, rfl, rfl, rfl, rfl, rfl, rfl, rfl, rfl, rfl, rfl⟩

@[simp] theorem recordGate_frame (level : Bool) (s : State) :
    (recordGate level s).held = s.held
    ∧ (recordGate level s).trunk = s.trunk
    ∧ (recordGate level s).table = s.table
    ∧ (recordGate level s).admission = s.admission
    ∧ (recordGate level s).hold = s.hold
    ∧ (recordGate level s).arbiter = s.arbiter
    ∧ (recordGate level s).spurLines = s.spurLines
    ∧ (recordGate level s).spurs = s.spurs
    ∧ (recordGate level s).profiles = s.profiles
    ∧ (recordGate level s).retention = s.retention
    ∧ (recordGate level s).clock = s.clock
    ∧ (recordGate level s).watch = s.watch
    ∧ (recordGate level s).check = s.check
    ∧ (recordGate level s).agent = s.agent
    ∧ (recordGate level s).freeCount = s.freeCount
    ∧ (recordGate level s).pending = s.pending := by
  exact ⟨rfl, rfl, rfl, rfl, rfl, rfl, rfl, rfl, rfl, rfl, rfl, rfl, rfl, rfl, rfl, rfl⟩

@[simp] theorem recordWake_frame (level : Bool) (s : State) :
    (recordWake level s).held = s.held
    ∧ (recordWake level s).trunk = s.trunk
    ∧ (recordWake level s).table = s.table
    ∧ (recordWake level s).admission = s.admission
    ∧ (recordWake level s).hold = s.hold
    ∧ (recordWake level s).arbiter = s.arbiter
    ∧ (recordWake level s).spurLines = s.spurLines
    ∧ (recordWake level s).spurs = s.spurs
    ∧ (recordWake level s).profiles = s.profiles
    ∧ (recordWake level s).retention = s.retention
    ∧ (recordWake level s).clock = s.clock
    ∧ (recordWake level s).watch = s.watch
    ∧ (recordWake level s).check = s.check
    ∧ (recordWake level s).agent = s.agent
    ∧ (recordWake level s).freeCount = s.freeCount
    ∧ (recordWake level s).pending = s.pending := by
  exact ⟨rfl, rfl, rfl, rfl, rfl, rfl, rfl, rfl, rfl, rfl, rfl, rfl, rfl, rfl, rfl, rfl⟩

@[simp] theorem recordStraps_frame (x : Straps) (s : State) :
    (recordStraps x s).held = s.held
    ∧ (recordStraps x s).trunk = s.trunk
    ∧ (recordStraps x s).table = s.table
    ∧ (recordStraps x s).admission = s.admission
    ∧ (recordStraps x s).hold = s.hold
    ∧ (recordStraps x s).arbiter = s.arbiter
    ∧ (recordStraps x s).spurLines = s.spurLines
    ∧ (recordStraps x s).spurs = s.spurs
    ∧ (recordStraps x s).profiles = s.profiles
    ∧ (recordStraps x s).retention = s.retention
    ∧ (recordStraps x s).clock = s.clock
    ∧ (recordStraps x s).watch = s.watch
    ∧ (recordStraps x s).check = s.check
    ∧ (recordStraps x s).agent = s.agent
    ∧ (recordStraps x s).freeCount = s.freeCount
    ∧ (recordStraps x s).pending = s.pending := by
  exact ⟨rfl, rfl, rfl, rfl, rfl, rfl, rfl, rfl, rfl, rfl, rfl, rfl, rfl, rfl, rfl, rfl⟩

@[simp] theorem moveStraps_frame (s : State) :
    (moveStraps s).held = s.held
    ∧ (moveStraps s).trunk = s.trunk
    ∧ (moveStraps s).table = s.table
    ∧ (moveStraps s).admission = s.admission
    ∧ (moveStraps s).hold = s.hold
    ∧ (moveStraps s).arbiter = s.arbiter
    ∧ (moveStraps s).spurLines = s.spurLines
    ∧ (moveStraps s).spurs = s.spurs
    ∧ (moveStraps s).profiles = s.profiles
    ∧ (moveStraps s).retention = s.retention
    ∧ (moveStraps s).clock = s.clock
    ∧ (moveStraps s).watch = s.watch
    ∧ (moveStraps s).check = s.check
    ∧ (moveStraps s).agent = s.agent
    ∧ (moveStraps s).freeCount = s.freeCount
    ∧ (moveStraps s).pending = s.pending := by
  exact ⟨rfl, rfl, rfl, rfl, rfl, rfl, rfl, rfl, rfl, rfl, rfl, rfl, rfl, rfl, rfl, rfl⟩

@[simp] theorem appendHeld_frame (r : HeldFrame) (s : State) :
    (appendHeld r s).pins = s.pins
    ∧ (appendHeld r s).held = s.held
    ∧ (appendHeld r s).trunk = s.trunk
    ∧ (appendHeld r s).table = s.table
    ∧ (appendHeld r s).admission = s.admission
    ∧ (appendHeld r s).arbiter = s.arbiter
    ∧ (appendHeld r s).spurLines = s.spurLines
    ∧ (appendHeld r s).spurs = s.spurs
    ∧ (appendHeld r s).profiles = s.profiles
    ∧ (appendHeld r s).retention = s.retention
    ∧ (appendHeld r s).clock = s.clock
    ∧ (appendHeld r s).watch = s.watch
    ∧ (appendHeld r s).check = s.check
    ∧ (appendHeld r s).agent = s.agent
    ∧ (appendHeld r s).freeCount = s.freeCount
    ∧ (appendHeld r s).pending = s.pending := by
  exact ⟨rfl, rfl, rfl, rfl, rfl, rfl, rfl, rfl, rfl, rfl, rfl, rfl, rfl, rfl, rfl, rfl⟩

@[simp] theorem modifyTransition_frame (f : Transition → Transition) (s : State) :
    (modifyTransition f s).pins = s.pins
    ∧ (modifyTransition f s).held = s.held
    ∧ (modifyTransition f s).trunk = s.trunk
    ∧ (modifyTransition f s).table = s.table
    ∧ (modifyTransition f s).admission = s.admission
    ∧ (modifyTransition f s).hold = s.hold
    ∧ (modifyTransition f s).arbiter = s.arbiter
    ∧ (modifyTransition f s).spurLines = s.spurLines
    ∧ (modifyTransition f s).spurs = s.spurs
    ∧ (modifyTransition f s).retention = s.retention
    ∧ (modifyTransition f s).clock = s.clock
    ∧ (modifyTransition f s).watch = s.watch
    ∧ (modifyTransition f s).check = s.check
    ∧ (modifyTransition f s).agent = s.agent
    ∧ (modifyTransition f s).freeCount = s.freeCount
    ∧ (modifyTransition f s).pending = s.pending := by
  exact ⟨rfl, rfl, rfl, rfl, rfl, rfl, rfl, rfl, rfl, rfl, rfl, rfl, rfl, rfl, rfl, rfl⟩

@[simp] theorem enterPhase_frame (p : Phase) (t : Option Time) (s : State) :
    (enterPhase p t s).pins = s.pins
    ∧ (enterPhase p t s).held = s.held
    ∧ (enterPhase p t s).trunk = s.trunk
    ∧ (enterPhase p t s).table = s.table
    ∧ (enterPhase p t s).admission = s.admission
    ∧ (enterPhase p t s).hold = s.hold
    ∧ (enterPhase p t s).arbiter = s.arbiter
    ∧ (enterPhase p t s).spurLines = s.spurLines
    ∧ (enterPhase p t s).spurs = s.spurs
    ∧ (enterPhase p t s).retention = s.retention
    ∧ (enterPhase p t s).clock = s.clock
    ∧ (enterPhase p t s).watch = s.watch
    ∧ (enterPhase p t s).check = s.check
    ∧ (enterPhase p t s).agent = s.agent
    ∧ (enterPhase p t s).freeCount = s.freeCount
    ∧ (enterPhase p t s).pending = s.pending := by
  exact ⟨rfl, rfl, rfl, rfl, rfl, rfl, rfl, rfl, rfl, rfl, rfl, rfl, rfl, rfl, rfl, rfl⟩

@[simp] theorem clearDirectory_frame (s : State) :
    (clearDirectory s).pins = s.pins
    ∧ (clearDirectory s).held = s.held
    ∧ (clearDirectory s).trunk = s.trunk
    ∧ (clearDirectory s).table = s.table
    ∧ (clearDirectory s).admission = s.admission
    ∧ (clearDirectory s).hold = s.hold
    ∧ (clearDirectory s).arbiter = s.arbiter
    ∧ (clearDirectory s).spurLines = s.spurLines
    ∧ (clearDirectory s).spurs = s.spurs
    ∧ (clearDirectory s).profiles = s.profiles
    ∧ (clearDirectory s).clock = s.clock
    ∧ (clearDirectory s).watch = s.watch
    ∧ (clearDirectory s).check = s.check
    ∧ (clearDirectory s).agent = s.agent
    ∧ (clearDirectory s).freeCount = s.freeCount
    ∧ (clearDirectory s).pending = s.pending := by
  exact ⟨rfl, rfl, rfl, rfl, rfl, rfl, rfl, rfl, rfl, rfl, rfl, rfl, rfl, rfl, rfl, rfl⟩

@[simp] theorem refuseRequest_frame (q : ProfileRequest) (c : Cause) (s : State) :
    (refuseRequest q c s).pins = s.pins
    ∧ (refuseRequest q c s).held = s.held
    ∧ (refuseRequest q c s).trunk = s.trunk
    ∧ (refuseRequest q c s).table = s.table
    ∧ (refuseRequest q c s).admission = s.admission
    ∧ (refuseRequest q c s).hold = s.hold
    ∧ (refuseRequest q c s).spurLines = s.spurLines
    ∧ (refuseRequest q c s).spurs = s.spurs
    ∧ (refuseRequest q c s).retention = s.retention
    ∧ (refuseRequest q c s).clock = s.clock
    ∧ (refuseRequest q c s).watch = s.watch
    ∧ (refuseRequest q c s).check = s.check
    ∧ (refuseRequest q c s).freeCount = s.freeCount
    ∧ (refuseRequest q c s).pending = s.pending := by
  exact ⟨rfl, rfl, rfl, rfl, rfl, rfl, rfl, rfl, rfl, rfl, rfl, rfl, rfl, rfl⟩

@[simp] theorem dropExpired_frame (s : State) :
    (dropExpired s).pins = s.pins
    ∧ (dropExpired s).held = s.held
    ∧ (dropExpired s).trunk = s.trunk
    ∧ (dropExpired s).table = s.table
    ∧ (dropExpired s).admission = s.admission
    ∧ (dropExpired s).spurLines = s.spurLines
    ∧ (dropExpired s).spurs = s.spurs
    ∧ (dropExpired s).profiles = s.profiles
    ∧ (dropExpired s).retention = s.retention
    ∧ (dropExpired s).clock = s.clock
    ∧ (dropExpired s).watch = s.watch
    ∧ (dropExpired s).check = s.check
    ∧ (dropExpired s).freeCount = s.freeCount
    ∧ (dropExpired s).pending = s.pending := by
  exact ⟨rfl, rfl, rfl, rfl, rfl, rfl, rfl, rfl, rfl, rfl, rfl, rfl, rfl, rfl⟩

@[simp] theorem modifyEngine_frame (n : SpurId) (f : Engine → Engine) (s : State) :
    (modifyEngine n f s).pins = s.pins
    ∧ (modifyEngine n f s).held = s.held
    ∧ (modifyEngine n f s).trunk = s.trunk
    ∧ (modifyEngine n f s).table = s.table
    ∧ (modifyEngine n f s).admission = s.admission
    ∧ (modifyEngine n f s).hold = s.hold
    ∧ (modifyEngine n f s).arbiter = s.arbiter
    ∧ (modifyEngine n f s).spurLines = s.spurLines
    ∧ (modifyEngine n f s).profiles = s.profiles
    ∧ (modifyEngine n f s).retention = s.retention
    ∧ (modifyEngine n f s).clock = s.clock
    ∧ (modifyEngine n f s).watch = s.watch
    ∧ (modifyEngine n f s).check = s.check
    ∧ (modifyEngine n f s).agent = s.agent
    ∧ (modifyEngine n f s).freeCount = s.freeCount
    ∧ (modifyEngine n f s).pending = s.pending := by
  exact ⟨rfl, rfl, rfl, rfl, rfl, rfl, rfl, rfl, rfl, rfl, rfl, rfl, rfl, rfl, rfl, rfl⟩

@[simp] theorem endTransmission_frame (n : SpurId) (s : State) :
    (endTransmission n s).pins = s.pins
    ∧ (endTransmission n s).held = s.held
    ∧ (endTransmission n s).trunk = s.trunk
    ∧ (endTransmission n s).table = s.table
    ∧ (endTransmission n s).admission = s.admission
    ∧ (endTransmission n s).hold = s.hold
    ∧ (endTransmission n s).arbiter = s.arbiter
    ∧ (endTransmission n s).spurLines = s.spurLines
    ∧ (endTransmission n s).profiles = s.profiles
    ∧ (endTransmission n s).retention = s.retention
    ∧ (endTransmission n s).clock = s.clock
    ∧ (endTransmission n s).watch = s.watch
    ∧ (endTransmission n s).check = s.check
    ∧ (endTransmission n s).agent = s.agent
    ∧ (endTransmission n s).freeCount = s.freeCount
    ∧ (endTransmission n s).pending = s.pending := by
  exact ⟨rfl, rfl, rfl, rfl, rfl, rfl, rfl, rfl, rfl, rfl, rfl, rfl, rfl, rfl, rfl, rfl⟩

@[simp] theorem startWait_frame (n : SpurId) (x : EngineState) (k : TimerKind) (l : Nat) (s : State) :
    (startWait n x k l s).pins = s.pins
    ∧ (startWait n x k l s).held = s.held
    ∧ (startWait n x k l s).trunk = s.trunk
    ∧ (startWait n x k l s).table = s.table
    ∧ (startWait n x k l s).admission = s.admission
    ∧ (startWait n x k l s).hold = s.hold
    ∧ (startWait n x k l s).arbiter = s.arbiter
    ∧ (startWait n x k l s).spurLines = s.spurLines
    ∧ (startWait n x k l s).profiles = s.profiles
    ∧ (startWait n x k l s).retention = s.retention
    ∧ (startWait n x k l s).clock = s.clock
    ∧ (startWait n x k l s).watch = s.watch
    ∧ (startWait n x k l s).check = s.check
    ∧ (startWait n x k l s).agent = s.agent
    ∧ (startWait n x k l s).freeCount = s.freeCount
    ∧ (startWait n x k l s).pending = s.pending := by
  exact ⟨rfl, rfl, rfl, rfl, rfl, rfl, rfl, rfl, rfl, rfl, rfl, rfl, rfl, rfl, rfl, rfl⟩

@[simp] theorem sendClose_frame (n : SpurId) (b : Burst) (s : State) :
    (sendClose n b s).pins = s.pins
    ∧ (sendClose n b s).held = s.held
    ∧ (sendClose n b s).trunk = s.trunk
    ∧ (sendClose n b s).table = s.table
    ∧ (sendClose n b s).admission = s.admission
    ∧ (sendClose n b s).hold = s.hold
    ∧ (sendClose n b s).arbiter = s.arbiter
    ∧ (sendClose n b s).spurLines = s.spurLines
    ∧ (sendClose n b s).profiles = s.profiles
    ∧ (sendClose n b s).retention = s.retention
    ∧ (sendClose n b s).clock = s.clock
    ∧ (sendClose n b s).watch = s.watch
    ∧ (sendClose n b s).check = s.check
    ∧ (sendClose n b s).agent = s.agent
    ∧ (sendClose n b s).freeCount = s.freeCount
    ∧ (sendClose n b s).pending = s.pending := by
  exact ⟨rfl, rfl, rfl, rfl, rfl, rfl, rfl, rfl, rfl, rfl, rfl, rfl, rfl, rfl, rfl, rfl⟩

@[simp] theorem clearRecords_frame (n : SpurId) (x : EngineState) (s : State) :
    (clearRecords n x s).pins = s.pins
    ∧ (clearRecords n x s).held = s.held
    ∧ (clearRecords n x s).trunk = s.trunk
    ∧ (clearRecords n x s).table = s.table
    ∧ (clearRecords n x s).admission = s.admission
    ∧ (clearRecords n x s).hold = s.hold
    ∧ (clearRecords n x s).arbiter = s.arbiter
    ∧ (clearRecords n x s).spurLines = s.spurLines
    ∧ (clearRecords n x s).profiles = s.profiles
    ∧ (clearRecords n x s).retention = s.retention
    ∧ (clearRecords n x s).clock = s.clock
    ∧ (clearRecords n x s).watch = s.watch
    ∧ (clearRecords n x s).check = s.check
    ∧ (clearRecords n x s).agent = s.agent
    ∧ (clearRecords n x s).freeCount = s.freeCount
    ∧ (clearRecords n x s).pending = s.pending := by
  exact ⟨rfl, rfl, rfl, rfl, rfl, rfl, rfl, rfl, rfl, rfl, rfl, rfl, rfl, rfl, rfl, rfl⟩

@[simp] theorem takeCopy_frame (n : SpurId) (c : Copy) (rest : List Copy) (s : State) :
    (takeCopy n c rest s).pins = s.pins
    ∧ (takeCopy n c rest s).held = s.held
    ∧ (takeCopy n c rest s).trunk = s.trunk
    ∧ (takeCopy n c rest s).table = s.table
    ∧ (takeCopy n c rest s).admission = s.admission
    ∧ (takeCopy n c rest s).hold = s.hold
    ∧ (takeCopy n c rest s).arbiter = s.arbiter
    ∧ (takeCopy n c rest s).spurLines = s.spurLines
    ∧ (takeCopy n c rest s).profiles = s.profiles
    ∧ (takeCopy n c rest s).retention = s.retention
    ∧ (takeCopy n c rest s).clock = s.clock
    ∧ (takeCopy n c rest s).watch = s.watch
    ∧ (takeCopy n c rest s).check = s.check
    ∧ (takeCopy n c rest s).agent = s.agent
    ∧ (takeCopy n c rest s).freeCount = s.freeCount
    ∧ (takeCopy n c rest s).pending = s.pending := by
  exact ⟨rfl, rfl, rfl, rfl, rfl, rfl, rfl, rfl, rfl, rfl, rfl, rfl, rfl, rfl, rfl, rfl⟩

@[simp] theorem giveTest_frame (n : SpurId) (s : State) :
    (giveTest n s).pins = s.pins
    ∧ (giveTest n s).held = s.held
    ∧ (giveTest n s).trunk = s.trunk
    ∧ (giveTest n s).table = s.table
    ∧ (giveTest n s).admission = s.admission
    ∧ (giveTest n s).hold = s.hold
    ∧ (giveTest n s).arbiter = s.arbiter
    ∧ (giveTest n s).spurLines = s.spurLines
    ∧ (giveTest n s).profiles = s.profiles
    ∧ (giveTest n s).retention = s.retention
    ∧ (giveTest n s).clock = s.clock
    ∧ (giveTest n s).watch = s.watch
    ∧ (giveTest n s).agent = s.agent
    ∧ (giveTest n s).freeCount = s.freeCount
    ∧ (giveTest n s).pending = s.pending := by
  exact ⟨rfl, rfl, rfl, rfl, rfl, rfl, rfl, rfl, rfl, rfl, rfl, rfl, rfl, rfl, rfl⟩

@[simp] theorem startEpisode_frame (s : State) :
    (startEpisode s).pins = s.pins
    ∧ (startEpisode s).held = s.held
    ∧ (startEpisode s).trunk = s.trunk
    ∧ (startEpisode s).table = s.table
    ∧ (startEpisode s).admission = s.admission
    ∧ (startEpisode s).hold = s.hold
    ∧ (startEpisode s).arbiter = s.arbiter
    ∧ (startEpisode s).spurLines = s.spurLines
    ∧ (startEpisode s).spurs = s.spurs
    ∧ (startEpisode s).profiles = s.profiles
    ∧ (startEpisode s).retention = s.retention
    ∧ (startEpisode s).clock = s.clock
    ∧ (startEpisode s).check = s.check
    ∧ (startEpisode s).agent = s.agent
    ∧ (startEpisode s).freeCount = s.freeCount
    ∧ (startEpisode s).pending = s.pending := by
  exact ⟨rfl, rfl, rfl, rfl, rfl, rfl, rfl, rfl, rfl, rfl, rfl, rfl, rfl, rfl, rfl, rfl⟩

@[simp] theorem setStage_frame (x : WatchStage) (s : State) :
    (setStage x s).pins = s.pins
    ∧ (setStage x s).held = s.held
    ∧ (setStage x s).trunk = s.trunk
    ∧ (setStage x s).table = s.table
    ∧ (setStage x s).admission = s.admission
    ∧ (setStage x s).hold = s.hold
    ∧ (setStage x s).arbiter = s.arbiter
    ∧ (setStage x s).spurLines = s.spurLines
    ∧ (setStage x s).spurs = s.spurs
    ∧ (setStage x s).profiles = s.profiles
    ∧ (setStage x s).retention = s.retention
    ∧ (setStage x s).clock = s.clock
    ∧ (setStage x s).check = s.check
    ∧ (setStage x s).agent = s.agent
    ∧ (setStage x s).freeCount = s.freeCount
    ∧ (setStage x s).pending = s.pending := by
  exact ⟨rfl, rfl, rfl, rfl, rfl, rfl, rfl, rfl, rfl, rfl, rfl, rfl, rfl, rfl, rfl, rfl⟩

@[simp] theorem advanceTime_frame (s : State) :
    (advanceTime s).pins = s.pins
    ∧ (advanceTime s).held = s.held
    ∧ (advanceTime s).trunk = s.trunk
    ∧ (advanceTime s).table = s.table
    ∧ (advanceTime s).admission = s.admission
    ∧ (advanceTime s).hold = s.hold
    ∧ (advanceTime s).arbiter = s.arbiter
    ∧ (advanceTime s).spurLines = s.spurLines
    ∧ (advanceTime s).spurs = s.spurs
    ∧ (advanceTime s).profiles = s.profiles
    ∧ (advanceTime s).retention = s.retention
    ∧ (advanceTime s).watch = s.watch
    ∧ (advanceTime s).check = s.check
    ∧ (advanceTime s).agent = s.agent
    ∧ (advanceTime s).freeCount = s.freeCount
    ∧ (advanceTime s).pending = s.pending := by
  exact ⟨rfl, rfl, rfl, rfl, rfl, rfl, rfl, rfl, rfl, rfl, rfl, rfl, rfl, rfl, rfl, rfl⟩

@[simp] theorem trunkError_frame (x : TrunkError) (s : State) :
    (trunkError x s).pins = s.pins
    ∧ (trunkError x s).held = s.held
    ∧ (trunkError x s).table = s.table
    ∧ (trunkError x s).admission = s.admission
    ∧ (trunkError x s).hold = s.hold
    ∧ (trunkError x s).spurLines = s.spurLines
    ∧ (trunkError x s).spurs = s.spurs
    ∧ (trunkError x s).profiles = s.profiles
    ∧ (trunkError x s).retention = s.retention
    ∧ (trunkError x s).clock = s.clock
    ∧ (trunkError x s).watch = s.watch
    ∧ (trunkError x s).check = s.check
    ∧ (trunkError x s).freeCount = s.freeCount
    ∧ (trunkError x s).pending = s.pending := by
  exact ⟨rfl, rfl, rfl, rfl, rfl, rfl, rfl, rfl, rfl, rfl, rfl, rfl, rfl, rfl⟩

@[simp] theorem sendForwarded_frame (f : Frame) (s : State) :
    (sendForwarded f s).pins = s.pins
    ∧ (sendForwarded f s).held = s.held
    ∧ (sendForwarded f s).table = s.table
    ∧ (sendForwarded f s).admission = s.admission
    ∧ (sendForwarded f s).hold = s.hold
    ∧ (sendForwarded f s).arbiter = s.arbiter
    ∧ (sendForwarded f s).spurLines = s.spurLines
    ∧ (sendForwarded f s).spurs = s.spurs
    ∧ (sendForwarded f s).profiles = s.profiles
    ∧ (sendForwarded f s).retention = s.retention
    ∧ (sendForwarded f s).clock = s.clock
    ∧ (sendForwarded f s).watch = s.watch
    ∧ (sendForwarded f s).check = s.check
    ∧ (sendForwarded f s).agent = s.agent
    ∧ (sendForwarded f s).freeCount = s.freeCount
    ∧ (sendForwarded f s).pending = s.pending := by
  exact ⟨rfl, rfl, rfl, rfl, rfl, rfl, rfl, rfl, rfl, rfl, rfl, rfl, rfl, rfl, rfl, rfl⟩

@[simp] theorem sendOriginated_frame (f : Frame) (s : State) :
    (sendOriginated f s).pins = s.pins
    ∧ (sendOriginated f s).held = s.held
    ∧ (sendOriginated f s).table = s.table
    ∧ (sendOriginated f s).admission = s.admission
    ∧ (sendOriginated f s).hold = s.hold
    ∧ (sendOriginated f s).arbiter = s.arbiter
    ∧ (sendOriginated f s).spurLines = s.spurLines
    ∧ (sendOriginated f s).spurs = s.spurs
    ∧ (sendOriginated f s).profiles = s.profiles
    ∧ (sendOriginated f s).retention = s.retention
    ∧ (sendOriginated f s).clock = s.clock
    ∧ (sendOriginated f s).watch = s.watch
    ∧ (sendOriginated f s).check = s.check
    ∧ (sendOriginated f s).agent = s.agent
    ∧ (sendOriginated f s).freeCount = s.freeCount
    ∧ (sendOriginated f s).pending = s.pending := by
  exact ⟨rfl, rfl, rfl, rfl, rfl, rfl, rfl, rfl, rfl, rfl, rfl, rfl, rfl, rfl, rfl, rfl⟩

@[simp] theorem popRequest_frame (s : State) :
    (popRequest s).pins = s.pins
    ∧ (popRequest s).held = s.held
    ∧ (popRequest s).trunk = s.trunk
    ∧ (popRequest s).table = s.table
    ∧ (popRequest s).admission = s.admission
    ∧ (popRequest s).hold = s.hold
    ∧ (popRequest s).arbiter = s.arbiter
    ∧ (popRequest s).spurLines = s.spurLines
    ∧ (popRequest s).spurs = s.spurs
    ∧ (popRequest s).profiles = s.profiles
    ∧ (popRequest s).retention = s.retention
    ∧ (popRequest s).clock = s.clock
    ∧ (popRequest s).watch = s.watch
    ∧ (popRequest s).check = s.check
    ∧ (popRequest s).freeCount = s.freeCount
    ∧ (popRequest s).pending = s.pending := by
  exact ⟨rfl, rfl, rfl, rfl, rfl, rfl, rfl, rfl, rfl, rfl, rfl, rfl, rfl, rfl, rfl, rfl⟩

end Sys2Proof.Machine
end

