-- ==== Sys2Proof/Laws/Frames.lean ====
section
/-! SUPPORT. The frame of every shared operation: which blocks it leaves alone. -/

namespace Sys2Proof.Machine

/-- A fold of steps that each leave a field alone leaves it alone. -/
theorem foldl_field {σ α β : Type} (get : σ → β) (f : σ → α → σ) (h : ∀ x a, get (f x a) = get x)
    (l : List α) (x : σ) : get (l.foldl f x) = get x := by
  induction l generalizing x with
  | nil => rfl
  | cons a l ih => rw [List.foldl_cons, ih, h]

@[simp] theorem setSpurFlags_frame (n : SpurId) (x : BitVec 11) (s : State) :
    (setSpurFlags n x s).pins = s.pins
    ∧ (setSpurFlags n x s).held = s.held
    ∧ (setSpurFlags n x s).trunk = s.trunk
    ∧ (setSpurFlags n x s).table = s.table
    ∧ (setSpurFlags n x s).admission = s.admission
    ∧ (setSpurFlags n x s).hold = s.hold
    ∧ (setSpurFlags n x s).spurLines = s.spurLines
    ∧ (setSpurFlags n x s).profiles = s.profiles
    ∧ (setSpurFlags n x s).retention = s.retention
    ∧ (setSpurFlags n x s).clock = s.clock
    ∧ (setSpurFlags n x s).watch = s.watch
    ∧ (setSpurFlags n x s).check = s.check
    ∧ (setSpurFlags n x s).freeCount = s.freeCount
    ∧ (setSpurFlags n x s).pending = s.pending := by
  unfold setSpurFlags
  dsimp only
  refine ⟨?_, ?_, ?_, ?_, ?_, ?_, ?_, ?_, ?_, ?_, ?_, ?_, ?_, ?_⟩ <;> (repeat' split) <;> simp_all

/-- A TEST frame given, or the end of a line check, stays within the spurs, the check, the event status and the notice
flag. -/
@[simp] theorem nextTest_frame (n : SpurId) (s : State) :
    (nextTest n s).pins = s.pins
    ∧ (nextTest n s).held = s.held
    ∧ (nextTest n s).trunk = s.trunk
    ∧ (nextTest n s).table = s.table
    ∧ (nextTest n s).admission = s.admission
    ∧ (nextTest n s).hold = s.hold
    ∧ (nextTest n s).spurLines = s.spurLines
    ∧ (nextTest n s).profiles = s.profiles
    ∧ (nextTest n s).retention = s.retention
    ∧ (nextTest n s).clock = s.clock
    ∧ (nextTest n s).watch = s.watch
    ∧ (nextTest n s).freeCount = s.freeCount
    ∧ (nextTest n s).pending = s.pending := by
  unfold nextTest giveTest finishCheck
  dsimp only
  refine ⟨?_, ?_, ?_, ?_, ?_, ?_, ?_, ?_, ?_, ?_, ?_, ?_, ?_⟩ <;> (repeat' split) <;> simp

/-- So does the grant of a claim. -/
@[simp] theorem grantIfDue_frame (n : SpurId) (s : State) :
    (grantIfDue n s).pins = s.pins
    ∧ (grantIfDue n s).held = s.held
    ∧ (grantIfDue n s).trunk = s.trunk
    ∧ (grantIfDue n s).table = s.table
    ∧ (grantIfDue n s).admission = s.admission
    ∧ (grantIfDue n s).hold = s.hold
    ∧ (grantIfDue n s).spurLines = s.spurLines
    ∧ (grantIfDue n s).profiles = s.profiles
    ∧ (grantIfDue n s).retention = s.retention
    ∧ (grantIfDue n s).clock = s.clock
    ∧ (grantIfDue n s).watch = s.watch
    ∧ (grantIfDue n s).freeCount = s.freeCount
    ∧ (grantIfDue n s).pending = s.pending := by
  unfold grantIfDue grantClaim
  dsimp only
  refine ⟨?_, ?_, ?_, ?_, ?_, ?_, ?_, ?_, ?_, ?_, ?_, ?_, ?_⟩ <;> split <;> simp

/-- So does an engine that enters IDLE. -/
@[simp] theorem enterIdle_frame (n : SpurId) (s : State) :
    (enterIdle n s).pins = s.pins
    ∧ (enterIdle n s).held = s.held
    ∧ (enterIdle n s).trunk = s.trunk
    ∧ (enterIdle n s).table = s.table
    ∧ (enterIdle n s).admission = s.admission
    ∧ (enterIdle n s).hold = s.hold
    ∧ (enterIdle n s).spurLines = s.spurLines
    ∧ (enterIdle n s).profiles = s.profiles
    ∧ (enterIdle n s).retention = s.retention
    ∧ (enterIdle n s).clock = s.clock
    ∧ (enterIdle n s).watch = s.watch
    ∧ (enterIdle n s).freeCount = s.freeCount
    ∧ (enterIdle n s).pending = s.pending := by
  unfold enterIdle clearRecords
  simp

@[simp] theorem modifyContext_frame (r : Option ContextRef) (f : Context → Context) (s : State) :
    (modifyContext r f s).pins = s.pins
    ∧ (modifyContext r f s).held = s.held
    ∧ (modifyContext r f s).trunk = s.trunk
    ∧ (modifyContext r f s).table = s.table
    ∧ (modifyContext r f s).hold = s.hold
    ∧ (modifyContext r f s).arbiter = s.arbiter
    ∧ (modifyContext r f s).spurLines = s.spurLines
    ∧ (modifyContext r f s).spurs = s.spurs
    ∧ (modifyContext r f s).profiles = s.profiles
    ∧ (modifyContext r f s).clock = s.clock
    ∧ (modifyContext r f s).watch = s.watch
    ∧ (modifyContext r f s).check = s.check
    ∧ (modifyContext r f s).agent = s.agent
    ∧ (modifyContext r f s).freeCount = s.freeCount
    ∧ (modifyContext r f s).pending = s.pending := by
  unfold modifyContext
  refine ⟨?_, ?_, ?_, ?_, ?_, ?_, ?_, ?_, ?_, ?_, ?_, ?_, ?_, ?_, ?_⟩ <;> (repeat' split) <;> simp

@[simp] theorem offerClass_frame (q : Fin 4) (f : Frame) (s : State) :
    ((offerClass q f s).1).pins = s.pins
    ∧ ((offerClass q f s).1).held = s.held
    ∧ ((offerClass q f s).1).trunk = s.trunk
    ∧ ((offerClass q f s).1).table = s.table
    ∧ ((offerClass q f s).1).admission = s.admission
    ∧ ((offerClass q f s).1).hold = s.hold
    ∧ ((offerClass q f s).1).spurLines = s.spurLines
    ∧ ((offerClass q f s).1).spurs = s.spurs
    ∧ ((offerClass q f s).1).profiles = s.profiles
    ∧ ((offerClass q f s).1).retention = s.retention
    ∧ ((offerClass q f s).1).clock = s.clock
    ∧ ((offerClass q f s).1).watch = s.watch
    ∧ ((offerClass q f s).1).check = s.check
    ∧ ((offerClass q f s).1).freeCount = s.freeCount
    ∧ ((offerClass q f s).1).pending = s.pending := by
  unfold offerClass
  refine ⟨?_, ?_, ?_, ?_, ?_, ?_, ?_, ?_, ?_, ?_, ?_, ?_, ?_, ?_, ?_⟩ <;> (repeat' split) <;> simp

@[simp] theorem offerCopy_frame (n : SpurId) (c : Copy) (s : State) :
    ((offerCopy n c s).1).pins = s.pins
    ∧ ((offerCopy n c s).1).held = s.held
    ∧ ((offerCopy n c s).1).trunk = s.trunk
    ∧ ((offerCopy n c s).1).table = s.table
    ∧ ((offerCopy n c s).1).admission = s.admission
    ∧ ((offerCopy n c s).1).hold = s.hold
    ∧ ((offerCopy n c s).1).spurLines = s.spurLines
    ∧ ((offerCopy n c s).1).profiles = s.profiles
    ∧ ((offerCopy n c s).1).retention = s.retention
    ∧ ((offerCopy n c s).1).clock = s.clock
    ∧ ((offerCopy n c s).1).watch = s.watch
    ∧ ((offerCopy n c s).1).check = s.check
    ∧ ((offerCopy n c s).1).freeCount = s.freeCount
    ∧ ((offerCopy n c s).1).pending = s.pending := by
  unfold offerCopy
  refine ⟨?_, ?_, ?_, ?_, ?_, ?_, ?_, ?_, ?_, ?_, ?_, ?_, ?_, ?_⟩ <;> (repeat' split) <;> simp

@[simp] theorem loseEngine_frame (n : SpurId) (s : State) :
    (loseEngine n s).pins = s.pins
    ∧ (loseEngine n s).held = s.held
    ∧ (loseEngine n s).trunk = s.trunk
    ∧ (loseEngine n s).table = s.table
    ∧ (loseEngine n s).admission = s.admission
    ∧ (loseEngine n s).hold = s.hold
    ∧ (loseEngine n s).spurLines = s.spurLines
    ∧ (loseEngine n s).profiles = s.profiles
    ∧ (loseEngine n s).retention = s.retention
    ∧ (loseEngine n s).clock = s.clock
    ∧ (loseEngine n s).watch = s.watch
    ∧ (loseEngine n s).freeCount = s.freeCount
    ∧ (loseEngine n s).pending = s.pending := by
  unfold loseEngine
  dsimp only
  refine ⟨?_, ?_, ?_, ?_, ?_, ?_, ?_, ?_, ?_, ?_, ?_, ?_, ?_⟩ <;> (repeat' split) <;> simp_all

@[simp] theorem changePresence_frame (n : SpurId) (f : Spur → Spur) (s : State) :
    (changePresence n f s).pins = s.pins
    ∧ (changePresence n f s).held = s.held
    ∧ (changePresence n f s).trunk = s.trunk
    ∧ (changePresence n f s).table = s.table
    ∧ (changePresence n f s).admission = s.admission
    ∧ (changePresence n f s).hold = s.hold
    ∧ (changePresence n f s).spurLines = s.spurLines
    ∧ (changePresence n f s).profiles = s.profiles
    ∧ (changePresence n f s).retention = s.retention
    ∧ (changePresence n f s).clock = s.clock
    ∧ (changePresence n f s).watch = s.watch
    ∧ (changePresence n f s).freeCount = s.freeCount
    ∧ (changePresence n f s).pending = s.pending := by
  unfold changePresence
  dsimp only
  refine ⟨?_, ?_, ?_, ?_, ?_, ?_, ?_, ?_, ?_, ?_, ?_, ?_, ?_⟩ <;> (repeat' split) <;> simp_all

@[simp] theorem setPresence_frame (n : SpurId) (p : Presence) (t : Option Time) (s : State) :
    (setPresence n p t s).pins = s.pins
    ∧ (setPresence n p t s).held = s.held
    ∧ (setPresence n p t s).trunk = s.trunk
    ∧ (setPresence n p t s).table = s.table
    ∧ (setPresence n p t s).admission = s.admission
    ∧ (setPresence n p t s).hold = s.hold
    ∧ (setPresence n p t s).spurLines = s.spurLines
    ∧ (setPresence n p t s).profiles = s.profiles
    ∧ (setPresence n p t s).retention = s.retention
    ∧ (setPresence n p t s).clock = s.clock
    ∧ (setPresence n p t s).watch = s.watch
    ∧ (setPresence n p t s).freeCount = s.freeCount
    ∧ (setPresence n p t s).pending = s.pending := by
  unfold setPresence
  dsimp only
  refine ⟨?_, ?_, ?_, ?_, ?_, ?_, ?_, ?_, ?_, ?_, ?_, ?_, ?_⟩ <;> (repeat' split) <;> simp_all

@[simp] theorem startArriving_frame (n : SpurId) (s : State) :
    (startArriving n s).pins = s.pins
    ∧ (startArriving n s).held = s.held
    ∧ (startArriving n s).trunk = s.trunk
    ∧ (startArriving n s).table = s.table
    ∧ (startArriving n s).admission = s.admission
    ∧ (startArriving n s).hold = s.hold
    ∧ (startArriving n s).spurLines = s.spurLines
    ∧ (startArriving n s).profiles = s.profiles
    ∧ (startArriving n s).retention = s.retention
    ∧ (startArriving n s).clock = s.clock
    ∧ (startArriving n s).watch = s.watch
    ∧ (startArriving n s).freeCount = s.freeCount
    ∧ (startArriving n s).pending = s.pending := by
  unfold startArriving
  refine ⟨?_, ?_, ?_, ?_, ?_, ?_, ?_, ?_, ?_, ?_, ?_, ?_, ?_⟩ <;> (repeat' split) <;> simp

@[simp] theorem startLeaving_frame (n : SpurId) (s : State) :
    (startLeaving n s).pins = s.pins
    ∧ (startLeaving n s).held = s.held
    ∧ (startLeaving n s).trunk = s.trunk
    ∧ (startLeaving n s).table = s.table
    ∧ (startLeaving n s).admission = s.admission
    ∧ (startLeaving n s).hold = s.hold
    ∧ (startLeaving n s).spurLines = s.spurLines
    ∧ (startLeaving n s).profiles = s.profiles
    ∧ (startLeaving n s).retention = s.retention
    ∧ (startLeaving n s).clock = s.clock
    ∧ (startLeaving n s).watch = s.watch
    ∧ (startLeaving n s).freeCount = s.freeCount
    ∧ (startLeaving n s).pending = s.pending := by
  unfold startLeaving
  refine ⟨?_, ?_, ?_, ?_, ?_, ?_, ?_, ?_, ?_, ?_, ?_, ?_, ?_⟩ <;> (repeat' split) <;> simp

@[simp] theorem takeSense_frame (n : SpurId) (level : Bool) (s : State) :
    (takeSense n level s).pins = s.pins
    ∧ (takeSense n level s).held = s.held
    ∧ (takeSense n level s).trunk = s.trunk
    ∧ (takeSense n level s).table = s.table
    ∧ (takeSense n level s).admission = s.admission
    ∧ (takeSense n level s).hold = s.hold
    ∧ (takeSense n level s).spurLines = s.spurLines
    ∧ (takeSense n level s).profiles = s.profiles
    ∧ (takeSense n level s).retention = s.retention
    ∧ (takeSense n level s).clock = s.clock
    ∧ (takeSense n level s).watch = s.watch
    ∧ (takeSense n level s).freeCount = s.freeCount
    ∧ (takeSense n level s).pending = s.pending := by
  unfold takeSense
  refine ⟨?_, ?_, ?_, ?_, ?_, ?_, ?_, ?_, ?_, ?_, ?_, ?_, ?_⟩ <;> (repeat' split) <;> simp

@[simp] theorem takeSettle_frame (n : SpurId) (s : State) :
    (takeSettle n s).pins = s.pins
    ∧ (takeSettle n s).held = s.held
    ∧ (takeSettle n s).trunk = s.trunk
    ∧ (takeSettle n s).table = s.table
    ∧ (takeSettle n s).admission = s.admission
    ∧ (takeSettle n s).hold = s.hold
    ∧ (takeSettle n s).spurLines = s.spurLines
    ∧ (takeSettle n s).profiles = s.profiles
    ∧ (takeSettle n s).retention = s.retention
    ∧ (takeSettle n s).clock = s.clock
    ∧ (takeSettle n s).watch = s.watch
    ∧ (takeSettle n s).freeCount = s.freeCount
    ∧ (takeSettle n s).pending = s.pending := by
  unfold takeSettle
  refine ⟨?_, ?_, ?_, ?_, ?_, ?_, ?_, ?_, ?_, ?_, ?_, ?_, ?_⟩ <;> (repeat' split) <;> simp

@[simp] theorem settleIfDue_frame (n : SpurId) (s : State) :
    (settleIfDue n s).pins = s.pins
    ∧ (settleIfDue n s).held = s.held
    ∧ (settleIfDue n s).trunk = s.trunk
    ∧ (settleIfDue n s).table = s.table
    ∧ (settleIfDue n s).admission = s.admission
    ∧ (settleIfDue n s).hold = s.hold
    ∧ (settleIfDue n s).spurLines = s.spurLines
    ∧ (settleIfDue n s).profiles = s.profiles
    ∧ (settleIfDue n s).retention = s.retention
    ∧ (settleIfDue n s).clock = s.clock
    ∧ (settleIfDue n s).watch = s.watch
    ∧ (settleIfDue n s).freeCount = s.freeCount
    ∧ (settleIfDue n s).pending = s.pending := by
  unfold settleIfDue
  refine ⟨?_, ?_, ?_, ?_, ?_, ?_, ?_, ?_, ?_, ?_, ?_, ?_, ?_⟩ <;> (repeat' split) <;> simp

@[simp] theorem driveOn_frame (n : SpurId) (s : State) :
    (driveOn n s).pins = s.pins
    ∧ (driveOn n s).held = s.held
    ∧ (driveOn n s).trunk = s.trunk
    ∧ (driveOn n s).table = s.table
    ∧ (driveOn n s).admission = s.admission
    ∧ (driveOn n s).hold = s.hold
    ∧ (driveOn n s).spurLines = s.spurLines
    ∧ (driveOn n s).profiles = s.profiles
    ∧ (driveOn n s).retention = s.retention
    ∧ (driveOn n s).clock = s.clock
    ∧ (driveOn n s).watch = s.watch
    ∧ (driveOn n s).freeCount = s.freeCount
    ∧ (driveOn n s).pending = s.pending := by
  unfold driveOn
  dsimp only
  refine ⟨?_, ?_, ?_, ?_, ?_, ?_, ?_, ?_, ?_, ?_, ?_, ?_, ?_⟩ <;> (repeat' split) <;> simp_all

@[simp] theorem driveOff_frame (n : SpurId) (s : State) :
    (driveOff n s).pins = s.pins
    ∧ (driveOff n s).held = s.held
    ∧ (driveOff n s).trunk = s.trunk
    ∧ (driveOff n s).table = s.table
    ∧ (driveOff n s).admission = s.admission
    ∧ (driveOff n s).hold = s.hold
    ∧ (driveOff n s).spurLines = s.spurLines
    ∧ (driveOff n s).profiles = s.profiles
    ∧ (driveOff n s).retention = s.retention
    ∧ (driveOff n s).clock = s.clock
    ∧ (driveOff n s).watch = s.watch
    ∧ (driveOff n s).freeCount = s.freeCount
    ∧ (driveOff n s).pending = s.pending := by
  simp [driveOff]

@[simp] theorem evaluateDrive_frame (n : SpurId) (s : State) :
    (evaluateDrive n s).pins = s.pins
    ∧ (evaluateDrive n s).held = s.held
    ∧ (evaluateDrive n s).trunk = s.trunk
    ∧ (evaluateDrive n s).table = s.table
    ∧ (evaluateDrive n s).admission = s.admission
    ∧ (evaluateDrive n s).hold = s.hold
    ∧ (evaluateDrive n s).spurLines = s.spurLines
    ∧ (evaluateDrive n s).profiles = s.profiles
    ∧ (evaluateDrive n s).retention = s.retention
    ∧ (evaluateDrive n s).clock = s.clock
    ∧ (evaluateDrive n s).watch = s.watch
    ∧ (evaluateDrive n s).freeCount = s.freeCount
    ∧ (evaluateDrive n s).pending = s.pending := by
  unfold evaluateDrive
  refine ⟨?_, ?_, ?_, ?_, ?_, ?_, ?_, ?_, ?_, ?_, ?_, ?_, ?_⟩ <;> (repeat' split) <;> simp

@[simp] theorem evaluateDrives_frame (ns : List SpurId) (s : State) :
    (evaluateDrives ns s).pins = s.pins
    ∧ (evaluateDrives ns s).held = s.held
    ∧ (evaluateDrives ns s).trunk = s.trunk
    ∧ (evaluateDrives ns s).table = s.table
    ∧ (evaluateDrives ns s).admission = s.admission
    ∧ (evaluateDrives ns s).hold = s.hold
    ∧ (evaluateDrives ns s).spurLines = s.spurLines
    ∧ (evaluateDrives ns s).profiles = s.profiles
    ∧ (evaluateDrives ns s).retention = s.retention
    ∧ (evaluateDrives ns s).clock = s.clock
    ∧ (evaluateDrives ns s).watch = s.watch
    ∧ (evaluateDrives ns s).freeCount = s.freeCount
    ∧ (evaluateDrives ns s).pending = s.pending := by
  unfold evaluateDrives
  exact ⟨foldl_field State.pins _ (by simp) _ _,
    foldl_field State.held _ (by simp) _ _,
    foldl_field State.trunk _ (by simp) _ _,
    foldl_field State.table _ (by simp) _ _,
    foldl_field State.admission _ (by simp) _ _,
    foldl_field State.hold _ (by simp) _ _,
    foldl_field State.spurLines _ (by simp) _ _,
    foldl_field State.profiles _ (by simp) _ _,
    foldl_field State.retention _ (by simp) _ _,
    foldl_field State.clock _ (by simp) _ _,
    foldl_field State.watch _ (by simp) _ _,
    foldl_field State.freeCount _ (by simp) _ _,
    foldl_field State.pending _ (by simp) _ _⟩

@[simp] theorem crossMarks_frame (k : Nat) (s : State) :
    (crossMarks k s).pins = s.pins
    ∧ (crossMarks k s).held = s.held
    ∧ (crossMarks k s).trunk = s.trunk
    ∧ (crossMarks k s).table = s.table
    ∧ (crossMarks k s).admission = s.admission
    ∧ (crossMarks k s).hold = s.hold
    ∧ (crossMarks k s).spurLines = s.spurLines
    ∧ (crossMarks k s).spurs = s.spurs
    ∧ (crossMarks k s).profiles = s.profiles
    ∧ (crossMarks k s).retention = s.retention
    ∧ (crossMarks k s).clock = s.clock
    ∧ (crossMarks k s).watch = s.watch
    ∧ (crossMarks k s).check = s.check
    ∧ (crossMarks k s).freeCount = s.freeCount
    ∧ (crossMarks k s).pending = s.pending := by
  unfold crossMarks
  exact ⟨foldl_field State.pins _ (by intro x a; split <;> simp) _ _,
    foldl_field State.held _ (by intro x a; split <;> simp) _ _,
    foldl_field State.trunk _ (by intro x a; split <;> simp) _ _,
    foldl_field State.table _ (by intro x a; split <;> simp) _ _,
    foldl_field State.admission _ (by intro x a; split <;> simp) _ _,
    foldl_field State.hold _ (by intro x a; split <;> simp) _ _,
    foldl_field State.spurLines _ (by intro x a; split <;> simp) _ _,
    foldl_field State.spurs _ (by intro x a; split <;> simp) _ _,
    foldl_field State.profiles _ (by intro x a; split <;> simp) _ _,
    foldl_field State.retention _ (by intro x a; split <;> simp) _ _,
    foldl_field State.clock _ (by intro x a; split <;> simp) _ _,
    foldl_field State.watch _ (by intro x a; split <;> simp) _ _,
    foldl_field State.check _ (by intro x a; split <;> simp) _ _,
    foldl_field State.freeCount _ (by intro x a; split <;> simp) _ _,
    foldl_field State.pending _ (by intro x a; split <;> simp) _ _⟩

@[simp] theorem holdFrame_frame (r : HeldFrame) (c : Option ContextRef) (s : State) :
    (holdFrame r c s).pins = s.pins
    ∧ (holdFrame r c s).held = s.held
    ∧ (holdFrame r c s).trunk = s.trunk
    ∧ (holdFrame r c s).table = s.table
    ∧ (holdFrame r c s).spurLines = s.spurLines
    ∧ (holdFrame r c s).spurs = s.spurs
    ∧ (holdFrame r c s).profiles = s.profiles
    ∧ (holdFrame r c s).clock = s.clock
    ∧ (holdFrame r c s).watch = s.watch
    ∧ (holdFrame r c s).check = s.check
    ∧ (holdFrame r c s).freeCount = s.freeCount
    ∧ (holdFrame r c s).pending = s.pending := by
  unfold holdFrame
  refine ⟨?_, ?_, ?_, ?_, ?_, ?_, ?_, ?_, ?_, ?_, ?_, ?_⟩ <;> (repeat' split) <;> simp

@[simp] theorem offerDown_frame (c : Copy) (r : Option ContextRef) (x : State × Bool) (n : SpurId) :
    ((offerDown c r x n).1).pins = x.1.pins
    ∧ ((offerDown c r x n).1).held = x.1.held
    ∧ ((offerDown c r x n).1).trunk = x.1.trunk
    ∧ ((offerDown c r x n).1).table = x.1.table
    ∧ ((offerDown c r x n).1).hold = x.1.hold
    ∧ ((offerDown c r x n).1).spurLines = x.1.spurLines
    ∧ ((offerDown c r x n).1).profiles = x.1.profiles
    ∧ ((offerDown c r x n).1).clock = x.1.clock
    ∧ ((offerDown c r x n).1).watch = x.1.watch
    ∧ ((offerDown c r x n).1).check = x.1.check
    ∧ ((offerDown c r x n).1).freeCount = x.1.freeCount
    ∧ ((offerDown c r x n).1).pending = x.1.pending := by
  have h := offerCopy_frame n c x.1
  unfold offerDown
  split
  · simp
  · split <;> rename_i t ht <;> simp only [ht] at h <;> simp [h]

@[simp] theorem forwardDown_frame (e : Entry) (f : Frame) (r : Option ContextRef) (s : State) :
    ((forwardDown e f r s).1).pins = s.pins
    ∧ ((forwardDown e f r s).1).held = s.held
    ∧ ((forwardDown e f r s).1).trunk = s.trunk
    ∧ ((forwardDown e f r s).1).table = s.table
    ∧ ((forwardDown e f r s).1).hold = s.hold
    ∧ ((forwardDown e f r s).1).spurLines = s.spurLines
    ∧ ((forwardDown e f r s).1).profiles = s.profiles
    ∧ ((forwardDown e f r s).1).clock = s.clock
    ∧ ((forwardDown e f r s).1).watch = s.watch
    ∧ ((forwardDown e f r s).1).check = s.check
    ∧ ((forwardDown e f r s).1).freeCount = s.freeCount
    ∧ ((forwardDown e f r s).1).pending = s.pending := by
  unfold forwardDown
  exact ⟨foldl_field (fun x : State × Bool => x.1.pins) _ (by simp) _ _,
    foldl_field (fun x : State × Bool => x.1.held) _ (by simp) _ _,
    foldl_field (fun x : State × Bool => x.1.trunk) _ (by simp) _ _,
    foldl_field (fun x : State × Bool => x.1.table) _ (by simp) _ _,
    foldl_field (fun x : State × Bool => x.1.hold) _ (by simp) _ _,
    foldl_field (fun x : State × Bool => x.1.spurLines) _ (by simp) _ _,
    foldl_field (fun x : State × Bool => x.1.profiles) _ (by simp) _ _,
    foldl_field (fun x : State × Bool => x.1.clock) _ (by simp) _ _,
    foldl_field (fun x : State × Bool => x.1.watch) _ (by simp) _ _,
    foldl_field (fun x : State × Bool => x.1.check) _ (by simp) _ _,
    foldl_field (fun x : State × Bool => x.1.freeCount) _ (by simp) _ _,
    foldl_field (fun x : State × Bool => x.1.pending) _ (by simp) _ _⟩

@[simp] theorem forwardUp_frame (e : Entry) (f : Frame) (r : Option ContextRef) (s : State) :
    ((forwardUp e f r s).1).pins = s.pins
    ∧ ((forwardUp e f r s).1).held = s.held
    ∧ ((forwardUp e f r s).1).trunk = s.trunk
    ∧ ((forwardUp e f r s).1).table = s.table
    ∧ ((forwardUp e f r s).1).hold = s.hold
    ∧ ((forwardUp e f r s).1).spurLines = s.spurLines
    ∧ ((forwardUp e f r s).1).spurs = s.spurs
    ∧ ((forwardUp e f r s).1).profiles = s.profiles
    ∧ ((forwardUp e f r s).1).clock = s.clock
    ∧ ((forwardUp e f r s).1).watch = s.watch
    ∧ ((forwardUp e f r s).1).check = s.check
    ∧ ((forwardUp e f r s).1).freeCount = s.freeCount
    ∧ ((forwardUp e f r s).1).pending = s.pending := by
  have h := offerClass_frame e.cls f s
  unfold forwardUp
  split <;> rename_i t ht <;> simp only [ht] at h <;> simp [h]

@[simp] theorem forward_frame (e : Entry) (d : Direction) (f : Frame) (r : Option ContextRef) (s : State) :
    (forward e d f r s).pins = s.pins
    ∧ (forward e d f r s).held = s.held
    ∧ (forward e d f r s).trunk = s.trunk
    ∧ (forward e d f r s).table = s.table
    ∧ (forward e d f r s).hold = s.hold
    ∧ (forward e d f r s).spurLines = s.spurLines
    ∧ (forward e d f r s).clock = s.clock
    ∧ (forward e d f r s).watch = s.watch
    ∧ (forward e d f r s).check = s.check
    ∧ (forward e d f r s).freeCount = s.freeCount
    ∧ (forward e d f r s).pending = s.pending := by
  cases d <;> simp only [forward, reportForwarded] <;> split <;> simp

@[simp] theorem admitPassing_frame (i : Position) (e : Entry) (d : Direction) (f : Frame) (s : State) :
    (admitPassing i e d f s).pins = s.pins
    ∧ (admitPassing i e d f s).held = s.held
    ∧ (admitPassing i e d f s).trunk = s.trunk
    ∧ (admitPassing i e d f s).table = s.table
    ∧ (admitPassing i e d f s).hold = s.hold
    ∧ (admitPassing i e d f s).spurLines = s.spurLines
    ∧ (admitPassing i e d f s).clock = s.clock
    ∧ (admitPassing i e d f s).watch = s.watch
    ∧ (admitPassing i e d f s).check = s.check
    ∧ (admitPassing i e d f s).freeCount = s.freeCount
    ∧ (admitPassing i e d f s).pending = s.pending := by
  unfold admitPassing
  refine ⟨?_, ?_, ?_, ?_, ?_, ?_, ?_, ?_, ?_, ?_, ?_⟩ <;> (repeat' split) <;> simp

/-- One millisecond: field time advances by one, and beside it only the event status and the notice flag may change. -/
@[simp] theorem passMillisecond_frame (s : State) :
    (passMillisecond s).clock = { s.clock with now := s.clock.now + 1 }
    ∧ (passMillisecond s).pins = s.pins
    ∧ (passMillisecond s).held = s.held
    ∧ (passMillisecond s).trunk = s.trunk
    ∧ (passMillisecond s).table = s.table
    ∧ (passMillisecond s).admission = s.admission
    ∧ (passMillisecond s).hold = s.hold
    ∧ (passMillisecond s).spurLines = s.spurLines
    ∧ (passMillisecond s).spurs = s.spurs
    ∧ (passMillisecond s).profiles = s.profiles
    ∧ (passMillisecond s).retention = s.retention
    ∧ (passMillisecond s).watch = s.watch
    ∧ (passMillisecond s).check = s.check
    ∧ (passMillisecond s).freeCount = s.freeCount
    ∧ (passMillisecond s).pending = s.pending := by
  unfold passMillisecond unlessHeld
  refine ⟨?_, ?_, ?_, ?_, ?_, ?_, ?_, ?_, ?_, ?_, ?_, ?_, ?_, ?_, ?_⟩ <;> (repeat' split) <;> simp [advanceTime]

end Sys2Proof.Machine
end

