-- ==== Sys2Proof/Laws/Ops.lean ====
section
/-! SUPPORT. What the shared operations can do, each said once: a change of one Spur Port, spur error flags, the grant
of a claim, the wake compare at the last field time, the execution of a management request, the guard of a held part,
and a run of line symbols through a receiver. -/

namespace Sys2Proof.Laws

open Sys2Proof Sys2Proof.Machine

/-! ## One Spur Port -/

/-- Two changes of one Spur Port are one change. -/
theorem modifySpur_modifySpur (n : SpurId) (f g : Spur → Spur) (s : State) :
    modifySpur n f (modifySpur n g s) = modifySpur n (fun x => f (g x)) s := by
  simp [modifySpur]

/-- The changed Spur Port. -/
theorem modifySpur_get (n : SpurId) (f : Spur → Spur) (s : State) :
    (modifySpur n f s).spurs[n.val] = f s.spurs[n.val] := by
  simp [modifySpur]

/-- The other Spur Ports stay. -/
theorem modifySpur_get_other (n m : SpurId) (f : Spur → Spur) (s : State) (h : m ≠ n) :
    (modifySpur n f s).spurs[m.val] = s.spurs[m.val] := by
  have : n.val ≠ m.val := fun e => h (Fin.ext e.symm)
  simp [modifySpur, this]

/-- A change that leaves the Spur Port as it is changes nothing. -/
theorem modifySpur_same (n : SpurId) (f : Spur → Spur) (s : State) (h : f s.spurs[n.val] = s.spurs[n.val]) :
    modifySpur n f s = s := by
  simp [modifySpur, h]

/-- Changes that agree on the Spur Port as it stands are the same. -/
theorem modifySpur_congr (n : SpurId) (f g : Spur → Spur) (s : State) (h : f s.spurs[n.val] = g s.spurs[n.val]) :
    modifySpur n f s = modifySpur n g s := by
  simp [modifySpur, h]

/-- The Spur Port after error flags are set (R112). -/
theorem setSpurFlags_get (n : SpurId) (flags : BitVec 11) (s : State) :
    (setSpurFlags n flags s).spurs[n.val]
      = { s.spurs[n.val] with errors := s.spurs[n.val].errors ||| flags } := by
  unfold setSpurFlags; dsimp only; split <;> simp [modifySpur, raise]

/-! ## Claims -/

/-- The claim that waits at an IDLE engine is granted (R95, R174). -/
theorem grantIfDue_of_due {n : SpurId} {s : State} (h : s.spurs[n.val].engine.state = .idle)
    (hc : s.spurs[n.val].engine.claimWaiting = true) : grantIfDue n s = grantClaim n s := by
  simp [grantIfDue, claimDue, h, hc]

/-- Nothing is granted by an engine that is not IDLE. -/
theorem grantIfDue_of_not_idle {n : SpurId} {s : State} (h : s.spurs[n.val].engine.state ≠ .idle) :
    grantIfDue n s = s := by
  simp [grantIfDue, claimDue, h]

/-- Nothing is granted where no claim waits. -/
theorem grantIfDue_of_no_claim {n : SpurId} {s : State} (h : s.spurs[n.val].engine.claimWaiting = false) :
    grantIfDue n s = s := by
  simp [grantIfDue, claimDue, h]

/-- While frames are left the next TEST is given (R175). -/
theorem nextTest_of_lt {n : SpurId} {s : State} (h : s.check.number < s.check.count) : nextTest n s = giveTest n s := by
  simp [nextTest, h]

/-- With no frame left the check finishes (R177). -/
theorem nextTest_of_le {n : SpurId} {s : State} (h : s.check.count ≤ s.check.number) :
    nextTest n s = finishCheck n s := by
  simp [nextTest, Nat.not_lt.mpr h]

/-! ## Field time -/

/-- At the last field time every target is reached: the compare is due exactly when it is armed (R163). -/
theorem compareDue_lastTime {s : State} (h : s.clock.now = lastTime) : compareDue s = s.clock.compareArmed := by
  have : s.clock.compareTarget.toNat ≤ (lastTime : Time).toNat := Nat.le_of_lt_succ s.clock.compareTarget.isLt
  simp [compareDue, h, this]

/-- So a compare that is still armed there fires, and one that is not does not. -/
theorem fireIfDue_lastTime {s : State} (h : s.clock.now = lastTime) :
    fireIfDue s = if s.clock.compareArmed then fireCompare s else s := by
  simp [fireIfDue, compareDue_lastTime h]

/-! ## Guards -/

/-- A command of a part that is not held acts. -/
theorem unlessHeld_of_not_held (f : State → State) (s : State) (h : s.held = false) : unlessHeld f s = f s := by
  simp [unlessHeld, h]

/-- A command of a held part changes nothing. -/
theorem unlessHeld_of_held (f : State → State) (s : State) (h : s.held = true) : unlessHeld f s = s := by
  simp [unlessHeld, h]

/-- The execution of the head request runs its operation on the state without the request (R181). -/
theorem onHead_of_executes {c : Instr} {rq : Request} {s : State} (body : State → State) (h : Executes c rq s) :
    onHead c rq body s = .next (body (popRequest s)) := by
  obtain ⟨h1, h2, h3, h4⟩ := h
  simp [onHead, executable, h1, h2, h3, h4, Config.responseCapacity]

/-! ## Receivers -/

/-- Data bytes collect in the trunk receiver (R23). -/
theorem trunkSymbol_data (b acc : List Byte) (s : State) (h : s.trunk.rx = .collecting acc)
    (hl : acc.length + b.length ≤ 248) :
    (b.map Symbol.data).foldl trunkSymbol s
      = { s with trunk := { s.trunk with rx := .collecting (acc ++ b) } } := by
  induction b generalizing acc s with
  | nil => obtain ⟨_, _, t⟩ := s; simp at h ⊢; rw [← h]
  | cons x b ih =>
    simp only [List.map_cons, List.foldl_cons]
    have hx : trunkSymbol s (.data x) = { s with trunk := { s.trunk with rx := .collecting (acc ++ [x]) } } := by
      have : acc.length < 248 := by simp at hl; omega
      simp [trunkSymbol, h, Receiver.take, Config.receiverCapacity, this]
    rw [hx, ih (acc ++ [x]) _ rfl (by simp at hl ⊢; omega)]; simp

/-- A whole trunk reception comes to its last symbol met with the bytes collected (R23). -/
theorem trunkSymbol_line (b : List Byte) (x : Symbol) (s : State) (h : s.trunk.rx = .waiting)
    (hl : b.length ≤ 248) :
    (Symbol.start :: b.map Symbol.data ++ [x]).foldl trunkSymbol s
      = trunkSymbol { s with trunk := { s.trunk with rx := .collecting b } } x := by
  simp only [List.cons_append, List.foldl_cons, List.foldl_append, List.foldl_nil]
  have hs : trunkSymbol s .start = { s with trunk := { s.trunk with rx := .collecting [] } } := by
    simp [trunkSymbol, h, Receiver.take]
  rw [hs, trunkSymbol_data b [] _ rfl (by simpa using hl)]; simp

/-- Data bytes collect in the receiver of a driven spur (R36). -/
theorem spurSymbol_data (n : SpurId) (b acc : List Byte) (s : State) (hd : s.spurs[n.val].drive = true)
    (h : s.spurs[n.val].rx = .collecting acc) (hl : acc.length + b.length ≤ 248) :
    (b.map Symbol.data).foldl (spurSymbol n) s
      = modifySpur n (fun sp => { sp with rx := .collecting (acc ++ b) }) s := by
  induction b generalizing acc s with
  | nil => simp; symm; apply modifySpur_same; simp [← h]
  | cons x b ih =>
    simp only [List.map_cons, List.foldl_cons]
    have hx : spurSymbol n s (.data x) = modifySpur n (fun sp => { sp with rx := .collecting (acc ++ [x]) }) s := by
      have : acc.length < 248 := by simp at hl; omega
      simp [spurSymbol, hd, h, Receiver.take, Config.receiverCapacity, this]
    rw [hx, ih (acc ++ [x]) _ (by simp [modifySpur_get, hd]) (by simp [modifySpur_get]) (by simp at hl ⊢; omega),
      modifySpur_modifySpur]
    simp

/-- A whole reception on a driven spur comes to its last symbol met with the bytes collected (R36). -/
theorem spurSymbol_line (n : SpurId) (b : List Byte) (x : Symbol) (s : State) (hd : s.spurs[n.val].drive = true)
    (h : s.spurs[n.val].rx = .waiting) (hl : b.length ≤ 248) :
    (Symbol.start :: b.map Symbol.data ++ [x]).foldl (spurSymbol n) s
      = spurSymbol n (modifySpur n (fun sp => { sp with rx := .collecting b }) s) x := by
  simp only [List.cons_append, List.foldl_cons, List.foldl_append, List.foldl_nil]
  have hs : spurSymbol n s .start = modifySpur n (fun sp => { sp with rx := .collecting [] }) s := by
    simp [spurSymbol, hd, h, Receiver.take]
  rw [hs, spurSymbol_data n b [] _ (by simp [modifySpur_get, hd]) (by simp [modifySpur_get]) (by simpa using hl),
    modifySpur_modifySpur]
  simp

/-- A reception completed on a driven spur is classified and judged (R37). -/
theorem spurSymbol_complete (n : SpurId) (b : List Byte) (s : State) (hd : s.spurs[n.val].drive = true)
    (h : s.spurs[n.val].rx = .waiting) (hl : b.length ≤ 248) :
    (Symbol.start :: b.map Symbol.data ++ [Symbol.stop]).foldl (spurSymbol n) s = judge n (classify b) s := by
  rw [spurSymbol_line n b _ s hd h hl]
  simp [spurSymbol, modifySpur_get, hd, Receiver.take, modifySpur_modifySpur]
  congr 1; apply modifySpur_same; simp [← h]

/-- A reception on a driven spur that ends otherwise than by an end delimiter is judged as an END error (R37). -/
theorem spurSymbol_broken (n : SpurId) (b : List Byte) (x : Symbol) (s : State)
    (hx : x = .malformed ∨ x = .idle ∨ b.length = 248 ∧ ∃ y : Byte, x = .data y)
    (hd : s.spurs[n.val].drive = true) (h : s.spurs[n.val].rx = .waiting) (hl : b.length ≤ 248) :
    (Symbol.start :: b.map Symbol.data ++ [x]).foldl (spurSymbol n) s = judge n .badEnd s := by
  rw [spurSymbol_line n b _ s hd h hl]
  rcases hx with rfl | rfl | ⟨h8, y, rfl⟩ <;>
    simp_all [spurSymbol, modifySpur_get, Receiver.take, modifySpur_modifySpur, Config.receiverCapacity] <;>
    (congr 1; apply modifySpur_same; simp [← h])

/-- A reception on a driven spur that a start delimiter ends is judged as an END error, the receiver being in the new
reception (R36, R37). -/
theorem spurSymbol_restarted (n : SpurId) (b : List Byte) (s : State) (hd : s.spurs[n.val].drive = true)
    (h : s.spurs[n.val].rx = .waiting) (hl : b.length ≤ 248) :
    (Symbol.start :: b.map Symbol.data ++ [Symbol.start]).foldl (spurSymbol n) s
      = judge n .badEnd (modifySpur n (fun sp => { sp with rx := .collecting [] }) s) := by
  rw [spurSymbol_line n b _ s hd h hl]
  simp [spurSymbol, modifySpur_get, hd, Receiver.take, modifySpur_modifySpur]

end Sys2Proof.Laws
end

