-- ==== Sys2Proof/WellFormed.lean ====
section
/-! DEFINITION. The checks on a command before it is one: a line event carries symbols that end a reception, a
management command carries a request that its row executes. -/

namespace Sys2Proof

/-- The request of a management command. -/
def Instr.request? (c : Instr) : Option Request :=
  match c with
  | .powerOn _ => none
  | .rstnLow => none
  | .rstnHigh _ => none
  | .trunkReceptionEnd _ => none
  | .trunkTransmitComplete => none
  | .arbiterTake => none
  | .spurReceptionEnd _ _ => none
  | .commandTransmitComplete _ => none
  | .closeTransmitComplete _ => none
  | .testTransmitComplete _ => none
  | .commandConflict _ => none
  | .closeConflict _ => none
  | .testConflict _ => none
  | .responseWindowExpiry _ => none
  | .burstGapExpiry _ => none
  | .closeWindowExpiry _ => none
  | .echoWindowExpiry _ => none
  | .engineTakeCopy _ => none
  | .claimGrant _ => none
  | .lineSenseChange _ _ => none
  | .settleTimerExpiry _ => none
  | .spurGateChange _ => none
  | .wakePinEdge _ => none
  | .wakeCompareFire => none
  | .timeWrap => none
  | .quietThresholdExpiry => none
  | .actionThresholdExpiry => none
  | .dormancyExpiry => none
  | .drainComplete => none
  | .drainLimitExpiry => none
  | .saveWalkStep => none
  | .restoreWalkStep => none
  | .settleWaitExpiry => none
  | .holdExpiry => none
  | .readAttr rq => some rq
  | .writeAttr rq => some rq
  | .writeStationOverride rq => some rq
  | .clearMissCountUp rq => some rq
  | .clearMissCountDown rq => some rq
  | .writeHoldMaxAge rq => some rq
  | .clearHoldDiscards rq => some rq
  | .writeRecordEnable rq => some rq
  | .writeWakeCompareHigh rq => some rq
  | .writeWakeCompareLow rq => some rq
  | .writeGatePolarity rq => some rq
  | .writeForce rq => some rq
  | .writeFollow rq => some rq
  | .writeSettle rq => some rq
  | .writeEarlyLeave rq => some rq
  | .clearSpurLost rq => some rq
  | .writeWatchEnable rq => some rq
  | .writeWatchMode rq => some rq
  | .writeQuietThreshold rq => some rq
  | .writeActionThreshold rq => some rq
  | .writeEntryChannel rq => some rq
  | .deleteEntryChannel rq => some rq
  | .readEntryChannel rq => some rq
  | .writeEntryProfile rq => some rq
  | .readEntryProfile rq => some rq
  | .writeEntryTransition rq => some rq
  | .readEntryTransition rq => some rq
  | .writeEntryDescriptor rq => some rq
  | .deleteEntryDescriptor rq => some rq
  | .readEntryDescriptor rq => some rq
  | .writeEntryListhead rq => some rq
  | .readEntryListhead rq => some rq
  | .writeEntryPattern rq => some rq
  | .readEntryPattern rq => some rq
  | .readEntryRetention rq => some rq
  | .readContext rq => some rq
  | .clearContext rq => some rq
  | .setProfile rq => some rq
  | .mark rq => some rq
  | .clearEvents rq => some rq
  | .clearSpurErrors rq => some rq
  | .resumeSpur rq => some rq
  | .checkStart rq => some rq
  | .checkStop rq => some rq
  | .restart rq => some rq
  | .unknownOp rq => some rq
  | .badTableRequest rq => some rq

/-- The symbols of a reception's end: the last one can end a reception (R23): a delimiter, a line gone idle, or a
data byte beyond the 248 a receiver collects. -/
def Instr.endsReception (line : List Symbol) : Bool :=
  match line.getLast? with
  | none => false
  | some (.data _) => decide (Config.receiverCapacity < line.length)
  | some _ => true

/-- A command is well formed when its line symbols end a reception, or its request is one that the Trunk Port
queues (R27: at least 2 payload bytes) and that its row executes (R32, R183, R185). -/
def Instr.wellFormed (c : Instr) : Bool :=
  match c with
  | .trunkReceptionEnd line => endsReception line
  | .spurReceptionEnd _ line => endsReception line
  | c =>
    match c.request? with
    | none => true
    | some rq =>
      decide (2 ≤ rq.payload.length) && decide (rq.payload.length ≤ Config.payloadCapacity)
        && decide (Instr.ofRequest rq = c)

end Sys2Proof
end

