-- ==== Sys2Proof/Tests/Slice0.lean ====
section
/-! SUPPORT. The model's own tests: ill-formed commands refused, the manual's worked figures on single steps, and for
every statement with hypotheses a concrete state and operands that meet them, clause by clause. -/

namespace Sys2Proof.Tests

open Sys2Proof Sys2Proof.Machine

-- One theorem after another: evaluated side by side, they would hold more threads than the check's memory gives.
set_option Elab.async false

/-! ## Helpers -/

/-- The next state of an outcome, none where it stops. -/
def answered (o : Result) : Option State :=
  match o with
  | .next t => some t
  | _ => none

/-- An outcome that answers a state is a next state. -/
theorem next_of_answered (o : Result) (h : (answered o).isSome = true) : ∃ t, o = .next t := by
  cases o with
  | next t => exact ⟨t, rfl⟩
  | fault r => simp [answered] at h
  | refused r => simp [answered] at h

/-- A request from the site controller. -/
def asked (payload : List Byte) : Request := ⟨0x00, payload⟩

/-- A state whose request queue holds one request. -/
def asking (payload : List Byte) (s : State) : State :=
  { s with agent := { s.agent with requests := [asked payload] } }

/-- The payload is executed as a row from a state: the condition `Executes`. -/
def executesAs (row : Request → Instr) (payload : List Byte) (s : State) : Bool :=
  decide (Executes (row (asked payload)) (asked payload) (asking payload s))

/-- A WRITE_ATTR of an attribute, index and value. -/
def writeOf (identifier : BitVec 16) (index : Byte) (v : Value) : List Byte :=
  0x02 :: 9 :: (bytes16 identifier ++ index :: bytes32 v)

/-- A WRITE_ATTR is executed as a row from a state, and its operands are read as they were written. -/
def writesAs (row : Request → Instr) (identifier : BitVec 16) (index : Byte) (v : Value) (s : State) : Bool :=
  executesAs row (writeOf identifier index v) s
    && decide (writeOperands (asked (writeOf identifier index v)) = some (identifier.toNat, index.toNat, v))

/-- A table operation on an index, with an image. -/
def entryOf (operation table index : Byte) (image : List Byte) : List Byte :=
  operation :: 9 :: table :: index :: image

/-- A WRITE_ENTRY is executed as a row from a state, and its image is read as it was written. -/
def entersAs (row : Request → Instr) (table index : Byte) (image : List Byte) (s : State) : Bool :=
  executesAs row (entryOf 4 table index image) s
    && decide (entryImage (asked (entryOf 4 table index image)) image.length = some (index.toNat, image))

/-- A READ_ENTRY or DELETE_ENTRY is executed as a row from a state, and its index is read as it was written. -/
def indexesAs (row : Request → Instr) (operation table index : Byte) (s : State) : Bool :=
  executesAs row (entryOf operation table index []) s
    && decide (entryIndex (asked (entryOf operation table index [])) = some index.toNat)

/-- The reset state with no notice asked for: no step of its own is due. -/
def quietState : State := { State.reset with arbiter := { State.reset.arbiter with notice := false } }

/-- The reset state with S0 changed. -/
def onS0 (f : Spur → Spur) : State := modifySpur 0 f State.reset

/-- The reset state with S0's engine in a state, its receiver and timer set. -/
def engineAt (state : EngineState) (rx : Receiver) (outstanding : Option Copy) (burst : Option Burst)
    (timer : Option EngineTimer) : State :=
  onS0 fun sp => { sp with rx := rx, engine := ⟨state, outstanding, burst, timer, false⟩ }

/-- A state at another field time. -/
def atTime (now : Time) (s : State) : State := { s with clock := { s.clock with now := now } }

/-- A COMMAND on channel 5 to station 0x21. -/
def commandFrame : Frame := ⟨0x21, 0x00, .command, false, false, 5, 7, []⟩

/-- A RESPONSE on channel 5 from station 0x21. -/
def responseFrame : Frame := ⟨0x00, 0x21, .response, false, false, 5, 7, [0xAB]⟩

/-- A frame with the longest payload. -/
def longFrame : Frame := ⟨0xFF, 0x00, .mgmtRequest, false, false, 0, 1, List.replicate 240 0x5A⟩

/-- A copy of the COMMAND. -/
def commandCopy : Copy := ⟨commandFrame, true, true⟩

/-- An open burst of the COMMAND's channel and station. -/
def openBurst : Burst := ⟨5, 0x21, true, 7⟩

/-- A DOWN entry of channel 5 on S0, live in every profile. -/
def downEntry : Entry := ⟨5, .down, 1, 0, 7, .drop, none, false, true, false⟩

/-- The reset state with the DOWN entry at position 0. -/
def withEntry : State := { State.reset with table := State.reset.table.set 0 (some downEntry) }

/-- A LIVE context. -/
def liveContext : Context := { Context.blank with live := true, passed := 3 }

/-- A held frame of position 0. -/
def heldFrame : HeldFrame := ⟨0, .down, .trunk, 0, commandFrame⟩

/-- The reset state with a transition in flight. -/
def inFlight (x : Transition) (s : State) : State :=
  { s with profiles := { s.profiles with transition := some x } }

/-- A state whose record DAY→NIGHT saves by L0, which names D0, which covers positions 0 and 1. -/
def saveListed (s : State) : State :=
  { s with
    profiles := { s.profiles with
      transitions := s.profiles.transitions.set 1 { TransitionRecord.default with saveList := some 0 } }
    retention := { s.retention with
      heads := s.retention.heads.set 0 (some 0)
      descriptors := s.retention.descriptors.set 0 (some ⟨0, 2, none⟩) } }

/-- A state in SAVE of DAY→NIGHT, with the positions still to walk and the slots filled. -/
def saving (rest : List Position) (slots : List Slot) (s : State) : State :=
  let s := saveListed s
  { s with
    profiles := { s.profiles with admission := .night, transition := some ⟨.day, .night, .save, 0, none⟩ }
    retention := { s.retention with saveRest := rest, slots := slots } }

/-- The Context Store with a LIVE context at position 0. -/
def liveStore (s : State) : State :=
  { s with
    admission := { s.admission with
      store := some ((Vector.replicate 128 Context.blank).set 0 liveContext) } }

/-- A state in RESTORE of NIGHT→DAY with slots. -/
def restoring (slots : List Slot) (s : State) : State :=
  { s with
    profiles := { s.profiles with transition := some ⟨.night, .day, .restore, 0, none⟩ }
    retention := { s.retention with slots := slots } }

/-- A slot of a position. -/
def slotAt (i : Position) (superseded : Bool) : Slot := ⟨i, liveContext, superseded⟩

/-- Thirty-two slots, of positions 96 to 127. -/
def fullSlots : List Slot := (List.finRange 32).map fun k => slotAt ⟨k.val + 96, by omega⟩ false

/-! ## Well-formedness: each check refuses -/

/-- No symbols end no reception. -/
theorem test_no_symbols_refused : (Instr.trunkReceptionEnd []).wellFormed = false := by decide

/-- A data byte ends no reception before the receiver is full. -/
theorem test_unfinished_reception_refused :
    (Instr.spurReceptionEnd 0 [.start, .data 0x21]).wellFormed = false := by decide

/-- A request without a tag is none. -/
theorem test_request_without_tag_refused : (Instr.mark (asked [0x09])).wellFormed = false := by decide

/-- A request longer than a payload is none. -/
theorem test_overlong_request_refused :
    (Instr.mark (asked (0x09 :: List.replicate 240 0))).wellFormed = false := by decide +kernel

/-- A request of another operation is not the row's. -/
theorem test_request_of_another_row_refused : (Instr.mark (asked [0x0F, 1])).wellFormed = false := by decide

/-- Well-formed commands of each kind pass. -/
theorem test_wellformed_accepted :
    (Instr.trunkReceptionEnd commandFrame.symbols).wellFormed = true
      ∧ (Instr.spurReceptionEnd 0 [.start, .idle]).wellFormed = true
      ∧ (Instr.mark (asked [0x09, 1])).wellFormed = true
      ∧ (Instr.writeSettle (asked [0x02, 1, 0x01, 0x04, 0, 0, 0, 0, 4])).wellFormed = true
      ∧ Instr.rstnLow.wellFormed = true := by decide +kernel

/-- A request spells the row of its operation, its table, or its attribute and index (R32, R183, R185). -/
theorem test_rows_by_request :
    Instr.ofRequest (asked [0x03, 9, 7, 0]) = .readEntryRetention (asked [0x03, 9, 7, 0])
      ∧ Instr.ofRequest (asked [0x04, 9, 7, 0]) = .badTableRequest (asked [0x04, 9, 7, 0])
      ∧ Instr.ofRequest (asked [0x05, 9, 4, 0]) = .deleteEntryDescriptor (asked [0x05, 9, 4, 0])
      ∧ Instr.ofRequest (asked [0x02, 9, 0x00, 0x56, 2, 0, 0, 0, 1])
        = .writeQuietThreshold (asked [0x02, 9, 0x00, 0x56, 2, 0, 0, 0, 1])
      ∧ Instr.ofRequest (asked [0x10, 9]) = .unknownOp (asked [0x10, 9]) := by decide

/-- The table's rows give no bits, so a word spells no command. -/
theorem test_no_word_spells_a_command :
    decodeTableWord 16 0 = none ∧ State.reset.withFetchWord 16 0 = State.reset := ⟨rfl, rfl⟩

/-! ## Single steps -/

/-- The check of no bytes is the register's start, and of the digits 1 to 9 it is 0x29B1, as R22's generator gives. -/
theorem test_check_values :
    crc [] = 0xFFFF ∧ crc [0x31, 0x32, 0x33, 0x34, 0x35, 0x36, 0x37, 0x38, 0x39] = 0x29B1 := by decide +kernel

/-- The header of a COMMAND with more 1 on channel 0x305, byte by byte (R21). -/
theorem test_header_bytes :
    (Frame.body ⟨0x21, 0x00, .command, true, false, 0x305, 0x42, [0xAA]⟩)
      = [0x21, 0x00, 0x1B, 0x05, 0x42, 0x01, 0xAA] := by decide +kernel

/-- Step 7 of R30's chapter's example: TRUNK_ERRORS index 0 reads 1, in a response of seven payload bytes. -/
theorem test_trunk_errors_read :
    ((answered (exec (.readAttr (asked [0x01, 0x12, 0x00, 0x60, 0]))
        (asking [0x01, 0x12, 0x00, 0x60, 0]
          { State.reset with
            trunk := { State.reset.trunk with errors := ⟨1, 1, 1, 0, 1⟩ }
            agent := { State.reset.agent with straps := ⟨3, false⟩ } }))).map
      fun t => t.arbiter.responses) = some [⟨0x00, 0xA3, [0x01, 0x12, 0x00, 0, 0, 0, 1]⟩] := by decide +kernel

/-- A reception cut by a second start delimiter counts END, and the new one goes on to be SHORT (R23, R24). -/
theorem test_second_start_counts_end :
    ((answered (exec (.trunkReceptionEnd
        (.start :: List.replicate 9 (.data 0) ++ .start :: List.replicate 10 (.data 4) ++ [.stop])) State.reset)).map
      fun t => t.trunk.errors) = some ⟨0, 1, 1, 0, 0⟩ := by decide +kernel

/-- A policer of depth 2 and period 10 ms, empty since 0, credits two whole periods at 25 ms and keeps 20 as mark. -/
theorem test_policer_refill :
    takeToken ⟨2, 10⟩ 25 Context.blank = ({ Context.blank with tokens := 1, refillMark := 20 }, true) := by
  decide +kernel

/-- A request and the notice it finds waiting leave in that order: the response first (R83). -/
theorem test_response_before_notice :
    ((answered (exec .arbiterTake
        { State.reset with
          arbiter := { State.reset.arbiter with responses := [⟨0x00, 0xA0, [0x09, 1, 0]⟩] } })).map
      fun t => (t.trunk.tx.map Frame.kind, t.arbiter.notice)) = some (some .mgmtResponse, true) := by
  decide +kernel

/-! ## Witnesses: steps and resets -/

theorem witness_StepTakesFront :
    ({ State.reset with pending := [.rstnLow, .timeWrap] } : State).pending = .rstnLow :: [.timeWrap] := rfl

theorem witness_EmptyQueueTakesDueStepOrTicks :
    (State.reset.pending = [] ∧ due State.reset = [.arbiterTake])
      ∧ ({ State.reset with clock := { State.reset.clock with compareArmed := true } } : State).pending = []
      ∧ (due { State.reset with clock := { State.reset.clock with compareArmed := true } }).length = 2 := by
  decide +kernel

/-- Nothing is due in a state, with no command waiting and a walk running or none. -/
def restsIn (p : Option Phase) (s : State) : Bool :=
  s.pending.isEmpty && (due s).isEmpty && decide (phase s = p)

theorem witness_TickAtRest :
    ([0, lastTime].all fun now => restsIn none (atTime now quietState)) = true
      ∧ restsIn none { quietState with held := true } = true := by decide +kernel

theorem witness_TickInSave :
    ([0, lastTime].all fun now => restsIn (some .save) (atTime now (saving [0, 1] [] quietState))) = true := by
  decide +kernel

theorem witness_TickInRestore :
    ([0, lastTime].all fun now =>
      restsIn (some .restore) (atTime now (restoring [slotAt 0 false] quietState))) = true := by decide +kernel

theorem witness_PowerOnValues :
    ∃ t, exec (.powerOn ⟨⟨15, true⟩, true, true, 0x3F, [⟨1, false⟩]⟩) State.reset = .next t :=
  next_of_answered _ (by decide +kernel)

theorem witness_WarmResetKeepsAndClears :
    (∀ n : SpurId, State.reset.spurs[n].settle ≠ 0)
      ∧ ({ State.reset with watch := { State.reset.watch with enabled := true } } : State).watch.enabled = true := by
  decide +kernel

/-- The part about to answer a RESTART. -/
def restarting : State :=
  { State.reset with
    trunk := { State.reset.trunk with
      tx := some ⟨0x00, 0xA0, .mgmtResponse, false, false, 0, 0, [0x0F, 1, 0]⟩ }
    agent := { State.reset.agent with restartDue := true } }

/-- An enabled watch in QUIET since field time 0, with its thresholds run. -/
def watching (stage : WatchStage) (direct : Bool) (action : WatchAction) : State :=
  atTime 30000
    { State.reset with
      watch := { State.reset.watch with enabled := true, stage := stage, direct := direct, action := action } }

theorem witness_WarmResetCauses :
    (cutOff State.reset).held = true
      ∧ (restarting.held = false ∧ restarting.agent.restartDue = true
        ∧ restarting.trunk.tx = some ⟨0x00, 0xA0, .mgmtResponse, false, false, 0, 0, [0x0F, 1, 0]⟩)
      ∧ (let s := watching .quiet false .reset
        s.held = false ∧ s.watch.direct = false ∧ s.watch.stage = .quiet ∧ s.watch.action = .reset
          ∧ s.watch.actionThreshold ≤ elapsed s.watch.quietTime s.clock.now)
      ∧ (let s := watching .counting true .reset
        s.held = false ∧ s.watch.direct = true ∧ s.watch.stage = .counting ∧ s.watch.action = .reset
          ∧ s.watch.quietThreshold ≤ elapsed s.watch.episodeStart s.clock.now) := by decide +kernel

/-- A strap pin that has moved is sampled by the next warm reset of the part's own: ADDR 3 then, 0 before (R29). -/
theorem test_moved_strap_sampled :
    ((answered (exec .trunkTransmitComplete
        { restarting with pins := { restarting.pins with laterStraps := [⟨3, true⟩] } })).map
      fun t => (station t, t.profiles.applied, t.pins.laterStraps)) = some (0xA3, .dusk, []) := by decide +kernel

theorem witness_RstnLowCutsOffAndHolds : State.reset.held = false ∧ (cutOff State.reset).held = true := by
  decide +kernel

/-! ## Witnesses: the trunk -/

/-- The bytes of a frame of kind code 0, which names no kind, with a valid check. -/
def unknownBytes : List Byte :=
  let body := [0x21, 0x00, 0x00, 0x05, 0x07, 0x00]
  body ++ bytes16 (crc body)

theorem witness_FrameBytesRoundTrip :
    longFrame.payload.length ≤ 240 ∧ verdict responseFrame.bytes = .valid responseFrame
      ∧ verdict commandFrame.bytes = .valid commandFrame := by decide +kernel

theorem witness_TrunkReceptions :
    (longFrame.payload.length ≤ 240 ∧ State.reset.held = false ∧ State.reset.trunk.rx = .waiting)
      ∧ ((List.replicate 248 (0 : Byte)).length = 248 ∧ verdict (List.replicate 248 0) = .short)
      ∧ verdict (List.replicate 8 0) = .check
      ∧ (unknownBytes.length ≤ 248 ∧ verdict unknownBytes = .unknownKind) := by decide +kernel

/-- Where the checks of a completed reception meet: 7 and 8 bytes, byte 5 of 0, 1, 240 and 241, and a byte too many. -/
theorem test_verdict_boundaries :
    (verdict (List.replicate 7 0) = .short ∧ verdict (List.replicate 8 0) = .check)
      ∧ (verdict (List.replicate 249 240) = .short ∧ verdict (List.replicate 249 241) = .short)
      ∧ (List.replicate 9 (1 : Byte)).length = 8 + 1 ∧ verdict (List.replicate 9 1) = .check
      ∧ verdict (List.replicate 10 1) = .short := by decide +kernel

/-- The kinds 0 and 10 are unknown, 1 and 9 are known. -/
theorem test_kind_boundaries :
    (∀ k ∈ [(0x00 : Byte), 0xA0],
        let body : List Byte := [0x21, 0, k, 5, 7, 0]
        verdict (body ++ bytes16 (crc body)) = .unknownKind)
      ∧ verdict commandFrame.bytes = .valid commandFrame
      ∧ verdict ({ commandFrame with kind := .wake } : Frame).bytes = .valid { commandFrame with kind := .wake } := by
  decide +kernel

theorem witness_TrunkDispatch :
    (commandFrame.kind = .command ∧ commandFrame.destination ≠ station State.reset ∧ commandFrame.channel ≠ 0)
      ∧ ({ commandFrame with destination := 0xA0 } : Frame).destination = station State.reset
      ∧ (({ longFrame with destination := 0xA1 } : Frame).destination ≠ station State.reset
        ∧ ({ longFrame with destination := 0xA1 } : Frame).destination ≠ 0xFF)
      ∧ (longFrame.kind = .mgmtRequest ∧ longFrame.destination = 0xFF)
      ∧ (({ longFrame with kind := .wake } : Frame).kind = .wake ∧ longFrame.destination = 0xFF)
      ∧ (responseFrame.kind ≠ .command ∧ responseFrame.kind ≠ .mgmtRequest ∧ responseFrame.kind ≠ .wake) := by
  decide +kernel

theorem witness_TrunkTransmitter :
    (State.reset.held = false ∧ State.reset.trunk.tx = none
        ∧ State.reset.arbiter.responses = [] ∧ State.reset.arbiter.notice = true)
      ∧ (let s := { quietState with
            arbiter := { quietState.arbiter with responses := [⟨0x00, 0xA0, [0x09, 1, 0]⟩] } }
        s.held = false ∧ s.trunk.tx = none ∧ s.arbiter.responses = [⟨0x00, 0xA0, [0x09, 1, 0]⟩])
      ∧ (let s := { quietState with
            arbiter := { quietState.arbiter with
              classQueues := (quietState.arbiter.classQueues.set 0 [responseFrame]).set 2 [responseFrame] } }
        s.held = false ∧ s.trunk.tx = none ∧ s.arbiter.responses = [] ∧ s.arbiter.notice = false
          ∧ s.arbiter.classQueues[(2 : Fin 4)] = [responseFrame]
          ∧ ∀ p : Fin 4, 2 < p → s.arbiter.classQueues[p] = [])
      ∧ (restarting.held = false ∧ ({ restarting.agent with restartDue := false } : Agent).restartDue = false
        ∧ restarting.trunk.tx.isSome = true)
      ∧ (let f : Frame := ⟨0x00, 0xA0, .mgmtResponse, false, false, 0, 0, [0x09, 1, 0]⟩
        let s := { restarting with trunk := { restarting.trunk with tx := some f } }
        s.held = false ∧ s.trunk.tx = some f ∧ s.agent.restartDue = true ∧ f.payload.head? ≠ some 0x0F)
      ∧ commandFrame.kind ≠ .mgmtResponse := by decide +kernel

/-! ## Witnesses: admission -/

theorem witness_MissPolicies :
    (lookup 5 .down State.reset = none ∧ State.reset.admission.floodDown = false)
      ∧ (let s := { State.reset with admission := { State.reset.admission with floodDown := true } }
        lookup 5 .down s = none ∧ s.admission.floodDown = true)
      ∧ (∀ copies ∈ [0, 7, 8],
        let s := onS0 fun sp => { sp with presence := .present, queue := List.replicate copies commandCopy }
        lookup 5 .down s = none ∧ s.spurs[(0 : SpurId)].presence = .present ∧ isClosing 0 s = false)
      ∧ lookup 5 .up withEntry = none := by decide +kernel

theorem witness_FramesThatMayNotPass :
    ({ downEntry with live := 3 } : Entry).live.getLsbD State.reset.profiles.admission.code = false
      ∧ (let s := liveStore (saving [0, 1] [] withEntry)
        isLive downEntry s = true ∧ phase s = some .save ∧ covered 0 s = true ∧ slotOf 0 s = none)
      ∧ (let s := liveStore (saving [1] [slotAt 0 false] withEntry)
        isLive downEntry s = true ∧ phase s = some .save ∧ covered 0 s = true ∧ slotOf 0 s = some 0)
      ∧ (let s := restoring [slotAt 0 false] withEntry
        isLive downEntry s = true ∧ phase s = some .restore ∧ goodSlotOf 0 s = some 0
          ∧ s.retention.restoreNext ≤ 0)
      ∧ State.reset.hold.records.length < 64
      ∧ 64 ≤ (List.replicate 64 heldFrame).length := by decide +kernel

/-- A RESPONSE's entry on S0, and the reset state with it at position 0. -/
def upEntry : Entry := { downEntry with direction := .up, expectsResponse := false }

/-- The reset state with the UP entry at position 0. -/
def withUpEntry : State := { State.reset with table := State.reset.table.set 0 (some upEntry) }

theorem witness_FramesThatHit :
    (withEntry.table[(0 : Position)] = some downEntry ∧ lookup commandFrame.channel .down withEntry = some 0)
      ∧ (withUpEntry.table[(0 : Position)] = some upEntry ∧ lookup responseFrame.channel .up withUpEntry = some 0
        ∧ inSet 0 upEntry.spurs = true ∧ inSet 5 upEntry.spurs = false
        ∧ phase withUpEntry ≠ some .save ∧ phase withUpEntry ≠ some .restore)
      ∧ (let s := liveStore (saving [0, 1] [] withUpEntry)
        lookup responseFrame.channel .up s = some 0 ∧ phase s = some .save ∧ covered 0 s = true)
      ∧ TableLaw withEntry := by decide +kernel

/-- The reset state in NIGHT, with a slot of position 0. -/
def nightState (superseded : Bool) : State :=
  { withEntry with
    profiles := { State.reset.profiles with applied := .night, admission := .night }
    admission := { State.reset.admission with store := none }
    retention := { State.reset.retention with slots := [slotAt 0 superseded] } }

/-- An entry with the sequence check and a policer of depth 1. -/
def strictEntry : Entry := { downEntry with sequenceCheck := true, policer := some ⟨1, 10⟩ }

theorem witness_SequenceCheckAndPolicer :
    Context.blank.lastSequence = none
      ∧ ({ Context.blank with lastSequence := some 0xFF } : Context).lastSequence = some 0xFF
      ∧ (0 : Byte) ≠ 0xFF
      ∧ (isLive downEntry withEntry = true ∧ phase withEntry = none
        ∧ withEntry.profiles.applied ≠ .night ∧ withEntry.admission.store.isSome = true
        ∧ workingContext 0 withEntry = some (.store 0) ∧ getContext (.store 0) withEntry = some Context.blank)
      ∧ (checkSequence 7 { Context.blank with lastSequence := some 7 }).2 = false
      ∧ (strictEntry.sequenceCheck = true ∧ strictEntry.policer = some ⟨1, 10⟩
        ∧ (checkSequence 7 Context.blank).2 = true ∧ (takeToken ⟨1, 10⟩ 9 Context.blank).2 = false
        ∧ (takeToken ⟨1, 10⟩ 10 Context.blank).2 = true) := by decide +kernel

theorem witness_WorkingContextInNight :
    (nightState false).profiles.applied = .night ∧ (nightState false).retention.slots[0]? = some (slotAt 0 false)
      ∧ workingContext 0 (nightState false) = some (.slot 0)
      ∧ (∀ x ∈ (nightState true).retention.slots, x.index = 0 → x.superseded = true)
      ∧ workingContext 0 (nightState true) = none ∧ isLive downEntry (nightState true) = true
      ∧ State.reset.admission.store = some (Vector.replicate 128 Context.blank) := by decide +kernel

theorem witness_UpFrameJoinsClassQueue :
    State.reset.arbiter.classQueues[downEntry.cls].length < 16
      ∧ (let s := { State.reset with
            arbiter := { State.reset.arbiter with
              classQueues := State.reset.arbiter.classQueues.set 0 (List.replicate 16 responseFrame) } }
        16 ≤ s.arbiter.classQueues[downEntry.cls].length) := by decide +kernel

/-- A state that holds one frame of an entry not live. -/
def holdingFrame : State :=
  { State.reset with
    table := State.reset.table.set 0 (some { downEntry with live := 0 })
    hold := { State.reset.hold with records := [heldFrame] } }

theorem witness_HoldQueueExpiryAndRelease :
    holdingFrame.held = false ∧ holdingFrame.hold.records ≠ []
      ∧ ∀ r ∈ holdingFrame.hold.records, ∀ e : Entry,
          holdingFrame.table[r.index] = some e → isLive e holdingFrame = false := by
  refine ⟨rfl, by decide +kernel, ?_⟩
  intro r hr e he
  have hr' : r = heldFrame := by simpa [holdingFrame] using hr
  subst hr'
  have hk : holdingFrame.table[heldFrame.index] = some { downEntry with live := 0 } := by decide +kernel
  rw [hk] at he
  cases he
  decide +kernel

/-- The same held frame with its entry live in every profile, S0 PRESENT. -/
def releasing : State :=
  { modifySpur 0 (fun sp => { sp with presence := .present }) withEntry with
    hold := { withEntry.hold with records := [heldFrame] } }

theorem witness_ReleaseIsTheWalk :
    releasing.table[heldFrame.index] = some downEntry
      ∧ downEntry.live.getLsbD releasing.profiles.admission.code = true
      ∧ workingContext heldFrame.index releasing = some (.store 0)
      ∧ getContext (.store 0) releasing = some Context.blank := by decide +kernel

/-- A released frame of a live entry leaves the Hold Queue for its spur's queue, counted as passed (R54, R67). -/
theorem test_release_passes_live_frame :
    let t := release false releasing
    t.hold.records = [] ∧ t.spurs[(0 : SpurId)].queue = [⟨commandFrame, true, false⟩]
      ∧ (getContext (.store 0) t).map (fun c => (c.passed, c.live)) = some (1, true) := by decide +kernel

/-! ## Witnesses: spur lines -/

/-- S0 IDLE with a copy waiting, and IN_BURST with the burst's copy behind another. -/
def waitingCopy (state : EngineState) (burst : Option Burst) (queue : List Copy) : State :=
  onS0 fun sp => { sp with queue := queue, engine := ⟨state, none, burst, none, false⟩ }

/-- A copy of another channel. -/
def otherCopy : Copy := ⟨{ commandFrame with channel := 6 }, false, false⟩

theorem witness_EngineTakesCopy :
    (let s := waitingCopy .idle none [commandCopy];
      s.held = false ∧ s.spurs[(0 : SpurId)].engine.state = .idle
        ∧ s.spurs[(0 : SpurId)].engine.claimWaiting = false
        ∧ s.spurs[(0 : SpurId)].queue = commandCopy :: [])
      ∧ (let s := waitingCopy .inBurst (some openBurst) [otherCopy, commandCopy]
        s.held = false ∧ s.spurs[(0 : SpurId)].engine.state = .inBurst
          ∧ s.spurs[(0 : SpurId)].engine.burst = some openBurst
          ∧ s.spurs[(0 : SpurId)].queue = [otherCopy] ++ commandCopy :: []
          ∧ commandCopy.frame.channel = openBurst.channel ∧ commandCopy.frame.destination = openBurst.station
          ∧ ∀ x ∈ [otherCopy],
              x.frame.channel ≠ openBurst.channel ∨ x.frame.destination ≠ openBurst.station) := by
  decide +kernel

/-- S0 sending a copy, with and without a burst. -/
def sendingCopy (c : Copy) (burst : Option Burst) : State := engineAt .sending .own (some c) burst none

theorem witness_TransmissionsComplete :
    (∀ burst ∈ [none, some openBurst], ∀ c ∈ [commandCopy, otherCopy, { commandCopy with expectsResponse := false }],
        (sendingCopy c burst).held = false
          ∧ (sendingCopy c burst).spurs[(0 : SpurId)].engine.state = .sending
          ∧ (sendingCopy c burst).spurs[(0 : SpurId)].rx = .own
          ∧ (sendingCopy c burst).spurs[(0 : SpurId)].engine.outstanding = some c
          ∧ c.frame.more = false)
      ∧ ({ commandFrame with more := true } : Frame).more = true
      ∧ (let s := engineAt .closing .own (some commandCopy) (some openBurst) none
        s.held = false ∧ s.spurs[(0 : SpurId)].rx = .own ∧ s.spurs[(0 : SpurId)].engine.state = .closing)
      ∧ (let s := engineAt .checking .own (some commandCopy) none none
        s.held = false ∧ s.spurs[(0 : SpurId)].rx = .own ∧ s.spurs[(0 : SpurId)].engine.state = .checking) := by
  decide +kernel

/-- S0 waiting with a timer started at 0, its length just run at 50 ms. -/
def waitingAt (state : EngineState) (burst : Option Burst) (kind : TimerKind) : State :=
  atTime 50 (engineAt state .waiting (some commandCopy) burst (some ⟨kind, 0, 50⟩))

theorem witness_EngineFailures :
    (∀ burst ∈ [none, some openBurst],
        (sendingCopy commandCopy burst).held = false
          ∧ (sendingCopy commandCopy burst).spurs[(0 : SpurId)].rx = .own
          ∧ (sendingCopy commandCopy burst).spurs[(0 : SpurId)].engine.state = .sending)
      ∧ (let s := engineAt .closing .own (some commandCopy) (some openBurst) none
        s.held = false ∧ s.spurs[(0 : SpurId)].rx = .own ∧ s.spurs[(0 : SpurId)].engine.state = .closing)
      ∧ (let s := waitingAt .awaitingResponse none .responseWindow
        s.held = false ∧ 50 ≤ elapsed 0 s.clock.now ∧ s.spurs[(0 : SpurId)].engine.state = .awaitingResponse
          ∧ s.spurs[(0 : SpurId)].engine.timer = some ⟨.responseWindow, 0, 50⟩)
      ∧ (let s := waitingAt .awaitingCloseAck (some openBurst) .closeWindow
        s.held = false ∧ 50 ≤ elapsed 0 s.clock.now ∧ s.spurs[(0 : SpurId)].engine.state = .awaitingCloseAck
          ∧ s.spurs[(0 : SpurId)].engine.timer = some ⟨.closeWindow, 0, 50⟩) := by decide +kernel

theorem witness_BurstGapExpires :
    ∀ b ∈ [openBurst, { openBurst with autoClose := false }],
      let s := atTime 50 (engineAt .inBurst .waiting none (some b) (some ⟨.burstGap, 0, 50⟩))
      s.held = false ∧ s.spurs[(0 : SpurId)].engine.state = .inBurst
        ∧ s.spurs[(0 : SpurId)].engine.burst = some b
        ∧ s.spurs[(0 : SpurId)].engine.timer = some ⟨.burstGap, 0, 50⟩ ∧ 50 ≤ elapsed 0 s.clock.now := by
  decide +kernel

theorem witness_ReceptionsAwaited :
    (∀ state ∈ [EngineState.awaitingResponse, .awaitingCloseAck],
        let s := engineAt state .waiting (some commandCopy) none none
        s.held = false ∧ s.spurs[(0 : SpurId)].drive = true ∧ s.spurs[(0 : SpurId)].rx = .waiting
          ∧ s.spurs[(0 : SpurId)].engine.state = state
          ∧ s.spurs[(0 : SpurId)].engine.outstanding = some commandCopy
          ∧ s.spurs[(0 : SpurId)].engine.burst = none)
      ∧ (engineAt .awaitingResponse .waiting (some commandCopy) (some openBurst)
          none).spurs[(0 : SpurId)].engine.burst ≠ none
      ∧ (responseFrame.kind = .response ∧ responseFrame.channel ≠ 0
        ∧ responseFrame.source = commandCopy.frame.destination)
      ∧ ({ responseFrame with source := 0x22 } : Frame).source ≠ commandCopy.frame.destination
      ∧ (({ responseFrame with kind := .closeAck } : Frame).kind ≠ .response
        ∧ ({ responseFrame with kind := .closeAck } : Frame).source = commandCopy.frame.destination)
      ∧ (({ responseFrame with kind := .closeAck } : Frame).kind = .closeAck ∧ responseFrame.kind ≠ .closeAck)
      ∧ (verdict (List.replicate 8 0) = .check ∧ verdict unknownBytes = .unknownKind ∧ verdict [] = .short
        ∧ (List.replicate 8 (0 : Byte)).length ≤ 248) := by decide +kernel

/-- A line of each class of damage: a wrong check, an unknown kind; a wrong byte count, a malformed delimiter, an idle
line, a 249th byte. -/
theorem witness_DamagedLines :
    (∀ b ∈ [List.replicate 8 0, unknownBytes], Rules.DamagedCheck (.start :: b.map .data ++ [.stop]))
      ∧ (∀ x ∈ [Symbol.stop, .malformed, .idle], Rules.DamagedEnd [.start, x] .waiting)
      ∧ Rules.DamagedEnd (.start :: (List.replicate 248 0).map .data ++ [.data 0]) .waiting
      ∧ ∀ k ∈ [0, 248], Rules.DamagedEnd (.start :: (List.replicate k 0).map .data ++ [.start]) (.collecting []) := by
  refine ⟨fun b hb => ⟨b, ?_, ?_, rfl⟩, fun x hx => ⟨[], x, by decide, rfl, .inl ⟨rfl, ?_⟩⟩,
    ⟨List.replicate 248 0, .data 0, by decide +kernel, rfl, .inl ⟨rfl, .inr (.inr (.inr ⟨by decide +kernel, 0, rfl⟩))⟩⟩,
    fun k hk => ⟨List.replicate k 0, .start, ?_, rfl, .inr ⟨rfl, rfl⟩⟩⟩
  · revert b; decide +kernel
  · revert b; decide +kernel
  · simp only [List.mem_cons, List.not_mem_nil, or_false] at hx
    rcases hx with rfl | rfl | rfl
    · exact .inl ⟨rfl, by decide +kernel⟩
    · exact .inr (.inl rfl)
    · exact .inr (.inr (.inl rfl))
  · revert k; decide +kernel

theorem witness_UnawaitedReception :
    (∀ state ∈ [EngineState.off, .idle, .inBurst, .stalled, .awaitingResponse, .awaitingCloseAck],
        let s := engineAt state .waiting (some commandCopy) none none
        s.held = false ∧ s.spurs[(0 : SpurId)].drive = true ∧ s.spurs[(0 : SpurId)].rx = .waiting
          ∧ s.spurs[(0 : SpurId)].engine.state = state ∧ s.spurs[(0 : SpurId)].engine.outstanding ≠ none)
      ∧ (let f : Frame := { responseFrame with channel := 0 }
        verdict f.bytes = .valid f ∧ f.bytes.length ≤ 248 ∧ f.kind = .response ∧ f.channel = 0)
      ∧ (responseFrame.bytes.length ≤ 248 ∧ responseFrame.channel ≠ 0)
      ∧ (List.replicate 248 (0 : Byte)).length = 248
      ∧ (onS0 fun sp => { sp with drive := false }).spurs[(0 : SpurId)].drive = false
      ∧ (sendingCopy commandCopy none).spurs[(0 : SpurId)].rx = .own := by decide +kernel

/-- S0 in a presence state with its timer and engine. -/
def presentAs (presence : Presence) (timer : Option Time) (settle : Nat) (engine : EngineState) (sense : SpurSet) :
    State :=
  let s := onS0 fun sp =>
    { sp with
      presence := presence, settleTimer := timer, settle := settle
      engine := ⟨engine, none, none, none, false⟩ }
  { s with pins := { s.pins with sense := sense } }

theorem witness_PresenceAndDrive :
    (State.reset.held = false ∧ State.reset.spurs[(0 : SpurId)].drive = true
        ∧ inSet 0 State.reset.pins.sense ≠ true)
      ∧ (let s := atTime 16 (presentAs .arriving (some 0) 16 .off 1)
        s.held = false ∧ s.spurs[(0 : SpurId)].settleTimer = some 0
          ∧ s.spurs[(0 : SpurId)].settle ≤ elapsed 0 s.clock.now
          ∧ s.spurs[(0 : SpurId)].presence = .arriving ∧ s.spurs[(0 : SpurId)].engine.state = .off)
      ∧ (let s := atTime 16 (presentAs .leaving (some 0) 16 .idle 0)
        s.held = false ∧ s.spurs[(0 : SpurId)].settleTimer = some 0
          ∧ s.spurs[(0 : SpurId)].settle ≤ elapsed 0 s.clock.now
          ∧ s.spurs[(0 : SpurId)].presence = .leaving ∧ s.spurs[(0 : SpurId)].earlyLeave = false)
      ∧ (let s := presentAs .present none 0 .awaitingResponse 1
        s.held = false ∧ s.spurs[(0 : SpurId)].drive = true ∧ s.spurs[(0 : SpurId)].presence = .present
          ∧ s.spurs[(0 : SpurId)].settle = 0 ∧ inSet 0 s.pins.sense = true
          ∧ s.spurs[(0 : SpurId)].engine.state ≠ .off) := by decide +kernel

/-- Every row of the presence logic for a change of the sense, with SETTLE 0 and 16 and EARLY_LEAVE clear and set. -/
theorem witness_SenseTaken :
    ∀ p ∈ [Presence.absent, .arriving, .present, .leaving], ∀ settle ∈ [0, 16], ∀ early ∈ [false, true],
      ∀ level ∈ [false, true],
        let s := modifySpur 0 (fun sp => { sp with earlyLeave := early })
          (presentAs p none settle (if p = .present then .sending else .off) (if level then 0 else 1))
        s.held = false ∧ s.spurs[(0 : SpurId)].drive = true ∧ inSet 0 s.pins.sense ≠ level := by decide +kernel

/-- A sense that drops in PRESENT with EARLY_LEAVE set: LEAVING, the engine OFF with LOST, the queue counted,
PRESENCE_CHANGE. -/
theorem test_early_leave_loses_engine :
    (answered (execLineSenseChange 0 false
      (modifySpur 0 (fun sp => { sp with earlyLeave := true, queue := [commandCopy, commandCopy] })
        (presentAs .present none 16 .awaitingResponse 1)))).map
      (fun t => (t.spurs[(0 : SpurId)].presence, t.spurs[(0 : SpurId)].engine.state, t.spurs[(0 : SpurId)].lost,
        t.spurs[(0 : SpurId)].errors, t.agent.status.getLsbD 30)) = some (.leaving, .off, 2, 0x40, true) := by
  decide +kernel

theorem witness_LineSenseIgnored :
    inSet 0 State.reset.pins.sense = false ∧ (cutOff State.reset).held = true
      ∧ (onS0 fun sp => { sp with drive := false }).spurs[(0 : SpurId)].drive = false := by decide +kernel

/-- S0 of the reset state with its drive, its presence, its SETTLE, and the sense at its pin. -/
def drivenAs (drive force : Bool) (presence : Presence) (settle : Nat) (sense : SpurSet) : State :=
  let s := onS0 fun sp => { sp with drive := drive, force := force, presence := presence, settle := settle }
  { s with pins := { s.pins with sense := sense } }

theorem witness_DriveEvaluated :
    let on := fun s : State => inSet 0 s.spurLines.driveMask
      && (s.spurs[(0 : SpurId)].force
        || (s.spurs[(0 : SpurId)].follow && (s.pins.gate != s.spurLines.gateInverted)))
    on State.reset = State.reset.spurs[(0 : SpurId)].drive
      ∧ (∀ sense ∈ [(0 : SpurSet), 1], ∀ settle ∈ [0, 16],
        let s := drivenAs false true .absent settle sense
        s.spurs[(0 : SpurId)].drive = false ∧ on s = true ∧ s.spurs[(0 : SpurId)].presence = .absent
          ∧ inSet 0 s.pins.sense = decide (sense = 1) ∧ s.spurs[(0 : SpurId)].settle = settle)
      ∧ (let s := drivenAs true false .present 16 1
        s.spurs[(0 : SpurId)].drive = true ∧ on s = false) := by decide +kernel

/-! ## Witnesses: line checks -/

theorem witness_TestPatterns :
    ∀ p ∈ [Pattern.zeros, .ones, .alternate, .count, .custom, .pseudo],
      ({ State.reset.check with pattern := p, length := 240 } : LineCheck).pattern = p
        ∧ 239 < ({ State.reset.check with pattern := p, length := 240 } : LineCheck).length := by decide +kernel

/-- S0 IDLE with the claim of a WAITING check. -/
def claiming : State :=
  let s := onS0 fun sp => { sp with engine := ⟨.idle, none, none, none, true⟩ }
  { s with check := { s.check with outcome := .waiting } }

theorem witness_LineCheckRuns :
    (claiming.held = false ∧ claiming.spurs[(0 : SpurId)].engine.state = .idle
        ∧ claiming.spurs[(0 : SpurId)].engine.claimWaiting = true
        ∧ claiming.check.number < claiming.check.count)
      ∧ (let s := engineAt .checking .own (some commandCopy) none none
        s.held = false ∧ s.spurs[(0 : SpurId)].engine.state = .checking ∧ s.spurs[(0 : SpurId)].rx = .own)
      ∧ (let s := { waitingAt .checking none .responseWindow with
            check := { State.reset.check with outcome := .running, number := 100 } }
        s.held = false ∧ s.spurs[(0 : SpurId)].engine.state = .checking
          ∧ s.spurs[(0 : SpurId)].engine.timer = some ⟨.responseWindow, 0, 50⟩
          ∧ 50 ≤ elapsed 0 s.clock.now ∧ s.check.count ≤ s.check.number)
      ∧ State.reset.spurs[(0 : SpurId)].engine.state ≠ .idle := by decide +kernel

/-- The echo awaited: the one expected, another from the echo station, and a frame from elsewhere. -/
theorem witness_EchoJudged :
    let s := { waitingAt .checking none .responseWindow with
      check := { State.reset.check with outcome := .running, expected := some responseFrame } }
    s.held = false ∧ s.spurs[(0 : SpurId)].drive = true ∧ s.spurs[(0 : SpurId)].rx = .waiting
      ∧ s.spurs[(0 : SpurId)].engine.state = .checking
      ∧ s.spurs[(0 : SpurId)].engine.outstanding = some commandCopy
      ∧ s.spurs[(0 : SpurId)].engine.timer = some ⟨.responseWindow, 0, 50⟩
      ∧ responseFrame.source = commandCopy.frame.destination ∧ s.check.expected = some responseFrame
      ∧ { responseFrame with sequence := 8 } ≠ responseFrame
      ∧ commandFrame.source ≠ commandCopy.frame.destination ∧ responseFrame.payload.length ≤ 240 := by decide +kernel

/-! ## Witnesses: field time and the watch -/

/-- The last field time, with the wake compare armed for a target below it, or not. -/
def lastMoment (armed : Bool) : State :=
  let s := atTime 0xFFFFFFFFFF State.reset
  { s with clock := { s.clock with compareTarget := 7, compareArmed := armed } }

theorem witness_FieldTimeEvents :
    (State.reset.held = false ∧ State.reset.clock.now ≠ 0xFFFFFFFFFF)
      ∧ ∀ armed ∈ [false, true],
        (lastMoment armed).held = false ∧ (lastMoment armed).clock.now = 0xFFFFFFFFFF
          ∧ (lastMoment armed).clock.compareArmed = armed := by decide +kernel

/-- An armed compare fires before the wrap: WAKE_TIME and TIME_WRAP are recorded, the compare is disarmed. -/
theorem test_wrap_fires_armed_compare :
    (answered (execTimeWrap (lastMoment true))).map
      (fun t => (t.clock.now, t.clock.compareArmed, t.clock.compareTarget, t.agent.status.getLsbD 14,
        t.agent.status.getLsbD 23)) = some (0, false, 7, true, true) := by decide +kernel

theorem witness_SilenceWatchThresholds :
    (∀ direct ∈ [false, true], ∀ action ∈ [WatchAction.none, .fallback, .reset],
        let s := watching .counting direct action
        s.held = false ∧ s.watch.stage = .counting ∧ s.watch.direct = direct ∧ s.watch.action = action
          ∧ s.watch.quietThreshold ≤ elapsed s.watch.episodeStart s.clock.now)
      ∧ ∀ action ∈ [WatchAction.none, .fallback, .reset],
          let s := watching .quiet false action
          s.held = false ∧ s.watch.direct = false ∧ s.watch.stage = .quiet ∧ s.watch.action = action
            ∧ s.watch.actionThreshold ≤ elapsed s.watch.quietTime s.clock.now := by decide +kernel

/-! ## Witnesses: profiles -/

theorem witness_RequestAtRest :
    State.reset.profiles.transition = none
      ∧ SettingsLaw quietState ∧ quietState.profiles.applied ≠ .night := by decide +kernel

/-- A record whose mark the occupancy has reached; a check on a spur that NIGHT would close; a save list that is well
formed, one that loops and one that runs beyond 127. -/
theorem witness_RefusalChecks :
    (let r := { TransitionRecord.default with refusalMark := some 3 };
      holdHigh r { State.reset with hold := { State.reset.hold with records := List.replicate 60 heldFrame } } = true
        ∧ holdHigh r { State.reset with hold := { State.reset.hold with records := List.replicate 59 heldFrame } }
          = false)
      ∧ checkRunning .night claiming = true ∧ checkRunning .dusk claiming = false
      ∧ walkOrder 0 (saveListed State.reset) = some [0, 1]
      ∧ (∀ d ∈ [(⟨0, 1, some 0⟩ : Descriptor), ⟨127, 2, none⟩],
        let s := saveListed State.reset
        walkOrder 0 { s with retention := { s.retention with descriptors := s.retention.descriptors.set 0 (some d) } }
          = none) := by decide +kernel

/-- The transition DAY→DUSK at a phase. -/
def toDusk (phase : Phase) : Transition := ⟨.day, .dusk, phase, 0, some 0⟩

/-- The reset state with a dormancy timeout of 1 ms in DAY, at 1 ms. -/
def dormant : State :=
  atTime 1
    { State.reset with
      profiles := { State.reset.profiles with
        records := State.reset.profiles.records.set 2 ⟨0x3F, 1, .dusk⟩ } }

theorem witness_RequestsAndStartOfTransition :
    (inFlight (toDusk .drain) State.reset).profiles.transition = some (toDusk .drain)
      ∧ (let s := waitingCopy .idle none [commandCopy]
        (∃ n : SpurId, s.spurs[n].drive = true ∧ inSet n (profileRecord .night s).driveMask = false
            ∧ s.spurs[n].drained = false)
          ∧ (transitionRecord .day .night s).drainLimit ≠ 0)
      ∧ (dormant.held = false ∧ dormant.profiles.transition = none ∧ dormant.profiles.dormancy = some 0
        ∧ (profileRecord dormant.profiles.applied dormant).timeout ≠ 0
        ∧ (profileRecord dormant.profiles.applied dormant).timeout ≤ elapsed 0 dormant.clock.now)
      ∧ (profileRecord State.reset.profiles.applied State.reset).timeout = 0 := by decide +kernel

/-- A start with every closing spur drained, one with a drain limit of 0 and a spur that is not, and one that goes on to
SAVE. -/
theorem witness_StartWithoutDrain :
    ((transitionRecord .day .night State.reset).saveList = none
        ∧ (transitionRecord .day .night State.reset).settleWait ≠ 0
        ∧ ∀ n : SpurId, State.reset.spurs[n].drained = true)
      ∧ (let s := waitingCopy .idle none [commandCopy]
        let u := { s with profiles := { s.profiles with
          transitions := s.profiles.transitions.set 1 { TransitionRecord.default with drainLimit := 0 } } }
        (transitionRecord .day .night u).drainLimit = 0 ∧ u.spurs[(0 : SpurId)].drive = true
          ∧ inSet 0 (profileRecord .night u).driveMask = false ∧ u.spurs[(0 : SpurId)].drained = false)
      ∧ (let s := saveListed State.reset
        (transitionRecord .day .night s).saveList = some 0 ∧ walkOrder 0 s = some [0, 1]
          ∧ ∀ n : SpurId, s.spurs[n].drained = true) := by decide +kernel

/-- A state whose transition records all have a drain limit and a settle wait of 0. -/
def unsettled (s : State) : State :=
  { s with profiles := { s.profiles with
      transitions := Vector.replicate 6 { TransitionRecord.default with drainLimit := 0, settleWait := 0 } } }

theorem witness_EndInTheSameEvent :
    (let s := unsettled State.reset;
      (transitionRecord .day .dusk s).settleWait = 0 ∧ s.profiles.request = none
        ∧ ∀ n : SpurId, inSet n (profileRecord .dusk s).driveMask = true)
      ∧ (let s := unsettled (waitingCopy .idle none [commandCopy])
        s.spurs[(0 : SpurId)].drive = true ∧ inSet 0 (profileRecord .night s).driveMask = false
          ∧ ¬Rules.Drained s.spurs[(0 : SpurId)] ∧ (transitionRecord .day .night s).drainLimit = 0
          ∧ s.profiles.request = none)
      ∧ (let s := unsettled (inFlight (toDusk .drain) State.reset)
        s.held = false ∧ s.profiles.transition = some (toDusk .drain)
          ∧ (∀ n : SpurId, inSet n (toDusk .drain).closing = true → Rules.Drained s.spurs[n])
          ∧ (transitionRecord .day .dusk s).drainLimit ≤ elapsed 0 s.clock.now) := by decide +kernel

/-- A transition all of whose phases are skipped passes from its start to END in one event, its two captures made one
after the other (R133, R161). -/
theorem test_start_passes_to_end :
    let t := (takeRequest ⟨.management, .dusk⟩ (unsettled State.reset)).1
    t.profiles.transition = none ∧ t.profiles.applied = .dusk ∧ t.clock.current = ⟨0, .transitionEnd⟩
      ∧ t.clock.previous = ⟨0, .transitionStart⟩ := by decide +kernel

theorem witness_DrainEnds :
    (let s := atTime 1000 (inFlight (toDusk .drain) State.reset);
      s.held = false ∧ s.profiles.transition = some (toDusk .drain) ∧ (toDusk .drain).phase = .drain
        ∧ (toDusk .drain).source ≠ .night ∧ (toDusk .drain).target ≠ .night
        ∧ (transitionRecord .day .dusk s).settleWait ≠ 0 ∧ allDrained s = true
        ∧ (toDusk .drain).timer = some 0
        ∧ (transitionRecord .day .dusk s).drainLimit ≤ elapsed 0 s.clock.now)
      ∧ (let x : Transition := ⟨.day, .night, .drain, 0x3F, some 0⟩
        let s := inFlight x (saveListed State.reset)
        s.held = false ∧ s.profiles.transition = some x
          ∧ (transitionRecord x.source x.target s).saveList = some 0
          ∧ walkOrder 0 s = some [0, 1] ∧ [(0 : Position), 1] ≠ [] ∧ allDrained s = true
          ∧ (transitionRecord x.source x.target s).drainLimit ≤ elapsed 0 (atTime 1000 s).clock.now)
      ∧ (let x : Transition := ⟨.night, .day, .drain, 0, some 0⟩
        let s := atTime 1000 (inFlight x (nightState false))
        s.held = false ∧ s.profiles.transition = some x ∧ (transitionRecord x.source x.target s).settleWait ≠ 0
          ∧ allDrained s = true ∧ (transitionRecord x.source x.target s).drainLimit ≤ elapsed 0 s.clock.now)
      ∧ (let x : Transition := ⟨.day, .night, .drain, 0x3F, some 0⟩
        let s := saveListed State.reset
        let u := inFlight x { s with retention := { s.retention with heads := State.reset.retention.heads } }
        u.held = false ∧ u.profiles.transition = some x ∧ (transitionRecord x.source x.target u).settleWait ≠ 0
          ∧ (transitionRecord x.source x.target u).saveList = some 0 ∧ walkOrder 0 u = some []
          ∧ allDrained u = true) := by decide +kernel

/-- A transition DAY→NIGHT in DRAIN that closes every spur, at its limit, with S0's exchange in hand. -/
def draining (s : State) : State :=
  atTime 1000 (inFlight ⟨.day, .night, .drain, 0x3F, some 0⟩
    (saveListed
      (modifySpur 0
        (fun sp => { sp with queue := [commandCopy], engine := { sp.engine with state := .sending } }) s)))

theorem witness_DrainLimitEffects :
    (let s := draining State.reset
      let r := transitionRecord .day .night s
      s.held = false ∧ s.profiles.transition = some ⟨.day, .night, .drain, 0x3F, some 0⟩
        ∧ r.drainLimit ≤ elapsed 0 s.clock.now ∧ r.settleWait ≠ 0 ∧ r.saveList = some 0
        ∧ walkOrder 0 s = some [0, 1] ∧ inSet 0 0x3F = true ∧ ¬Rules.Drained s.spurs[(0 : SpurId)]
        ∧ s.spurs[(0 : SpurId)].engine.state ∈ Rules.exchanging) := by decide +kernel

theorem witness_SaveWalk :
    (let s := liveStore (saving [0, 1] [] withEntry);
      s.held = false ∧ phase s = some .save ∧ s.retention.saveRest = 0 :: 1 :: []
        ∧ s.table[(0 : Position)] = some downEntry
        ∧ s.admission.store = some ((Vector.replicate 128 Context.blank).set 0 liveContext)
        ∧ ((Vector.replicate 128 Context.blank).set 0 liveContext)[(0 : Position)].live = true
        ∧ slotOf 0 s = none ∧ s.retention.slots.length < 32)
      ∧ (let s := saving [0, 1] [] State.reset
        s.held = false ∧ phase s = some .save ∧ s.retention.saveRest = 0 :: 1 :: []
          ∧ s.table[(0 : Position)] = none)
      ∧ (let x : Transition := ⟨.day, .night, .save, 0, none⟩
        let s := liveStore (saving [0, 1] fullSlots withEntry)
        s.held = false ∧ s.profiles.transition = some x ∧ s.retention.saveRest = 0 :: [1]
          ∧ copyable 0 s = true ∧ 32 ≤ s.retention.slots.length
          ∧ (transitionRecord x.source x.target s).settleWait ≠ 0)
      ∧ (let s := liveStore (saving [0] [] withEntry)
        s.held = false ∧ s.profiles.transition = some ⟨.day, .night, .save, 0, none⟩ ∧ s.retention.saveRest = [0]
          ∧ s.table[(0 : Position)] = some downEntry ∧ slotOf 0 s = none ∧ s.retention.slots.length < 32
          ∧ (transitionRecord .day .night s).settleWait ≠ 0)
      ∧ (saving [1] [slotAt 1 false] withEntry).table[(1 : Position)] = none
      ∧ slotOf 1 (saving [1] [slotAt 1 false] withEntry) ≠ none := by decide +kernel

theorem witness_RestoreWalk :
    (∀ superseded ∈ [false, true],
        let s := restoring [slotAt 0 superseded, slotAt 1 false] withEntry
        s.held = false ∧ phase s = some .restore
          ∧ s.admission.store = some (Vector.replicate 128 Context.blank)
          ∧ s.retention.slots[s.retention.restoreNext]? = some (slotAt 0 superseded)
          ∧ s.retention.restoreNext + 1 < s.retention.slots.length
          ∧ (slotAt 0 superseded).superseded = superseded)
      ∧ (∀ superseded ∈ [false, true],
        let x : Transition := ⟨.night, .day, .restore, 0, none⟩
        let s := restoring [slotAt 0 superseded] withEntry
        s.held = false ∧ s.profiles.transition = some x
          ∧ s.retention.slots[s.retention.restoreNext]? = some (slotAt 0 superseded)
          ∧ s.retention.restoreNext + 1 = s.retention.slots.length
          ∧ (transitionRecord x.source x.target s).settleWait ≠ 0) := by decide +kernel

theorem witness_SettleWaitEndsTransition :
    let s := atTime 100 (inFlight (toDusk .settle) State.reset)
    s.held = false ∧ s.profiles.transition = some (toDusk .settle) ∧ (toDusk .settle).timer = some 0
      ∧ s.profiles.request = none
      ∧ (let q : ProfileRequest := ⟨.management, .day⟩
        ({ s.profiles with request := some q } : ProfileController).request = some q)
      ∧ (transitionRecord .day .dusk s).settleWait ≤ elapsed 0 s.clock.now := by decide +kernel

theorem witness_SettleWaitRuns :
    let s := atTime 99 (inFlight (toDusk .settle) State.reset)
    elapsed 0 s.clock.now < (transitionRecord .day .dusk s).settleWait := by decide +kernel

/-! ## Witnesses: management -/

theorem witness_EveryRequestIsAnsweredOnce :
    executesAs .mark [0x09, 1] State.reset
      ∧ Instr.mark (asked [0x09, 1]) ≠ .writeQuietThreshold (asked [0x09, 1])
      ∧ Instr.mark (asked [0x09, 1]) ≠ .writeActionThreshold (asked [0x09, 1]) := by decide +kernel

theorem witness_RefusedBySharedChecks :
    executesAs .unknownOp [0x10, 1] State.reset
      ∧ executesAs .badTableRequest [0x03, 1, 8, 0] State.reset
      ∧ executesAs .badTableRequest [0x04, 1, 7] State.reset := by decide +kernel

/-- Every row that reads argument bytes, by a request one byte short of what it needs. -/
theorem witness_MissingBytesRefused :
    let reads : List (List Byte) := [0x01, 9, 0, 1] :: [0x02, 9, 0, 1, 0, 0, 0, 0]
      :: [1, 2, 3, 4, 5, 6, 7].map fun k => [0x03, 9, k]
    let writes : List (List Byte) := [(1, 12), (2, 3), (3, 8), (4, 2), (5, 0), (6, 0)].map
      fun (k, m) => 0x04 :: 9 :: k :: 0 :: List.replicate m 0
    let others : List (List Byte) := [6, 7, 8, 0x0B, 0x0C].map fun k => [k, 9]
    let payloads := reads ++ [[0x05, 9, 1], [0x05, 9, 4]] ++ writes ++ others ++ [[0x0A, 9, 0, 0, 0]]
    payloads.length = (Rules.argumentBytes (asked [])).length
      ∧ (payloads.zipIdx.all fun (payload, i) =>
        match (Rules.argumentBytes (asked payload))[i]? with
        | some (c, k) =>
          decide (Executes c (asked payload) (asking payload State.reset))
            && decide ((asked payload).arguments.length + 1 = k)
        | none => false) = true := by decide +kernel

/-- The attribute checks: an identifier outside the list, the first index beyond a range, and a read-only index, of a
read, of the row WRITE_ATTR and of a row of its own. -/
theorem witness_AttributeChecks :
    (∀ row ∈ Rules.attributes, row.1 ≠ 0x0005)
      ∧ executesAs .readAttr [0x01, 9, 0x00, 0x05, 0] State.reset
      ∧ writesAs .writeAttr 0x0005 0 0 State.reset
      ∧ (0x0060, 5, 0) ∈ Rules.attributes ∧ executesAs .readAttr [0x01, 9, 0, 0x60, 5] State.reset
      ∧ readOperands (asked [0x01, 9, 0, 0x60, 5]) = some (0x0060, 5)
      ∧ writesAs .writeAttr 0x0060 4 0 State.reset
      ∧ (0x0104, 1, 1) ∈ Rules.attributes ∧ writesAs .writeSettle 0x0104 1 0 State.reset
      ∧ (0x0056, 7, 6) ∈ Rules.attributes ∧ writesAs .writeAttr 0x0056 6 0 State.reset := by decide +kernel

theorem witness_PartIdReads :
    ∀ k ∈ [(1 : Byte), 2, 3, 4],
      executesAs .readAttr [0x01, 9, 0, k, 0] State.reset
        ∧ readOperands (asked [0x01, 9, 0, k, 0]) = some (k.toNat, 0) := by decide +kernel

/-- Whether shared checks pass. -/
def passes {α : Type} (x : Except Status α) : Bool :=
  match x with
  | .error _ => false
  | .ok _ => true

theorem witness_AttributeReadsAndWrites :
    (executesAs .readAttr [0x01, 9, 0, 0x60, 4] State.reset
        ∧ passes (checkRead (asked [0x01, 9, 0, 0x60, 4])) = true)
      ∧ (writesAs .writeAttr 0x0033 0 64 State.reset
        ∧ passes (checkWrite (asked (writeOf 0x0033 0 64))) = true ∧ State.reset.agent.spurSelect ≠ 0) := by
  decide +kernel

theorem witness_AttributeValues :
    (executesAs .readAttr [0x01, 9, 0, 0x70, 8] State.reset
        ∧ readOperands (asked [0x01, 9, 0, 0x70, 8]) = some (0x0070, 8)
        ∧ (0x0070, 8, 0) ∈ Rules.globalValues (asking [0x01, 9, 0, 0x70, 8] State.reset))
      ∧ (executesAs .readAttr [0x01, 9, 1, 0x04, 0] State.reset
        ∧ readOperands (asked [0x01, 9, 1, 0x04, 0]) = some (0x0104, 0)
        ∧ inSet 0 State.reset.agent.spurSelect = true ∧ (∀ m : SpurId, ¬m < 0)
        ∧ (0x0104, 16) ∈ Rules.spurValues State.reset.spurs[(0 : SpurId)]) := by decide +kernel

/-- The two lists of values name every index of every attribute of R185, each once, and no other. -/
theorem test_every_attribute_has_its_value :
    let named := (Rules.globalValues State.reset).map (fun x => (x.1, x.2.1))
      ++ (Rules.spurValues State.reset.spurs[(0 : SpurId)]).map fun x => (x.1, 0)
    (Rules.attributes.flatMap fun x => (List.range x.2.1).map fun k => (x.1, k)) = named := by decide +kernel

/-- Every plain setting, by a value in range and one beyond it. -/
theorem witness_PlainSettingWrites :
    ([(0x0014, 0, 1, 0), (0x0020, 0, 1, 2), (0x0021, 0, 0, 2), (0x0030, 0, 64, 65), (0x0033, 0, 1, 0),
        (0x0042, 0, 0x7FFFFFFF, 0x80000000), (0x0054, 0, 1, 2), (0x0056, 4, 2, 3), (0x0056, 5, 2, 3),
        (0x0080, 0, 63, 64)].all
      fun (identifier, index, inRange, beyond) =>
        writesAs .writeAttr identifier index inRange State.reset
          && writesAs .writeAttr identifier index beyond State.reset) = true := by decide +kernel

/-- Every setting of the line check, by its last value and the first beyond it, at rest and while a check waits. -/
theorem witness_CheckSettingWrites :
    ([(0, 5, 6), (1, 255, 256), (2, 5, 6), (3, 240, 241), (4, 65535, 65536)].all
      fun (index, last, beyond) =>
        [State.reset, claiming].all fun s =>
          writesAs .writeAttr 0x0070 index last s && writesAs .writeAttr 0x0070 index beyond s) = true
      ∧ Pattern.code .custom = 5 ∧ claiming.check.outcome = .waiting
      ∧ State.reset.check.outcome = .none := by decide +kernel

/-- The windows and the burst gap, by their first and last values and the values beyond them. -/
theorem witness_WindowWrites :
    ([(0x0106, 255), (0x0107, 255), (0x0108, 1023)].all
      fun (identifier, last) => [0, 1, last, last + 1].all
        fun v => writesAs .writeAttr identifier 0 v State.reset) = true := by decide +kernel

theorem witness_SettingAndCounterWrites :
    ([0, 1, 0x1FF, 0xFFFFFFFF].all fun v =>
        writesAs .writeStationOverride 0x0003 0 v State.reset
          && writesAs .writeRecordEnable 0x0041 0 v State.reset
          && writesAs .writeWakeCompareLow 0x0053 1 v State.reset
          && writesAs .writeWatchEnable 0x0056 0 v State.reset
          && writesAs .clearMissCountUp 0x0022 0 v State.reset
          && writesAs .clearMissCountDown 0x0023 0 v State.reset
          && writesAs .clearHoldDiscards 0x0036 0 v State.reset
          && writesAs .clearSpurLost 0x010C 0 v State.reset) = true
      ∧ ([0, 1].all fun v => writesAs .writeWatchMode 0x0056 1 v State.reset && decide (v.toNat < 2)) = true := by
  decide +kernel

theorem witness_WritesThatActAtOnce :
    writesAs .writeHoldMaxAge 0x0034 0 65535 State.reset
      ∧ ([0, 1].all fun v =>
        writesAs .writeGatePolarity 0x0055 0 v State.reset
          && writesAs .writeForce 0x0100 0 v State.reset
          && writesAs .writeFollow 0x0101 0 v State.reset
          && writesAs .writeEarlyLeave 0x0105 0 v State.reset) = true
      ∧ ([0x100, 0x1FF, 0xFF].all fun v =>
        writesAs .writeWakeCompareHigh 0x0053 0 v State.reset && decide (v.toNat < 512)) = true
      ∧ ([0, 64].all fun v =>
        [.absent, .arriving, .leaving].all fun p =>
          let s := atTime 16 (presentAs p (if p = .absent then none else some 0) 64 .off 0)
          writesAs .writeSettle 0x0104 0 v s && inSet 0 s.agent.spurSelect) = true
      ∧ ([.present, .leaving].all fun p =>
        [(0, true), (1, false)].all fun x =>
          let s := modifySpur 0 (fun sp => { sp with earlyLeave := x.2 }) (presentAs p none 16 .idle 0)
          writesAs .writeEarlyLeave 0x0105 0 x.1 s && inSet 0 s.agent.spurSelect) = true := by decide +kernel

/-- Every row with a range, by a value beyond it. -/
theorem witness_OutOfRangeRefused :
    ([(65536, 0), (512, 1), (2, 2), (2, 3), (2, 4), (5, 5), (2, 6), (2, 7), (0, 8), (65536, 9)].all
      fun (v, k) =>
        match (Rules.writeRanges (asked []) v)[k]? with
        | none => false
        | some (_, identifier, index, inRange) =>
          let rq := asked (writeOf (BitVec.ofNat 16 identifier) (byteOf index) v)
          !inRange
            && match (Rules.writeRanges rq v)[k]? with
              | none => false
              | some (c, _, _, inRange) =>
                !inRange && decide (Executes c rq (asking rq.payload State.reset))
                  && decide (writeOperands rq = some (identifier, index, v))) = true := by decide +kernel

theorem witness_ThresholdWrites :
    ([0, 1, 65535, 65536].all fun v =>
        writesAs .writeQuietThreshold 0x0056 2 v State.reset
          && writesAs .writeActionThreshold 0x0056 3 v State.reset) = true
      ∧ (let s := watching .counting false .none
        writesAs .writeQuietThreshold 0x0056 2 1 s ∧ s.watch.stage = .counting
          ∧ 1 ≤ elapsed s.watch.episodeStart s.clock.now ∧ s.watch.direct = false)
      ∧ (let s := watching .quiet false .none
        writesAs .writeActionThreshold 0x0056 3 1 s ∧ s.watch.stage = .quiet ∧ s.watch.direct = false
          ∧ s.watch.action = .none ∧ 1 ≤ elapsed s.watch.quietTime s.clock.now)
      ∧ State.reset.watch.stage ≠ .counting ∧ State.reset.watch.stage ≠ .quiet := by decide +kernel

/-! ## Witnesses: tables and contexts -/

theorem witness_ImagesRoundTrip :
    downEntry.inRange = true ∧ Entry.ofImage downEntry.image = some downEntry
      ∧ (∀ i : Fin 3, (State.reset.profiles.records[i].inRange (profileOfIndex i)) = true
        ∧ ProfileRecord.ofImage (profileOfIndex i) State.reset.profiles.records[i].image
          = some State.reset.profiles.records[i])
      ∧ (∀ i : Fin 6, TransitionRecord.default.inRange i = true
        ∧ TransitionRecord.ofImage i TransitionRecord.default.image = some TransitionRecord.default)
      ∧ Descriptor.ofImage (Descriptor.image ⟨127, 128, some 15⟩) = some ⟨127, 128, some 15⟩ := by
  decide +kernel

theorem witness_ChannelWriteAndDelete :
    (∀ index ∈ [(0 : Byte), 127, 128],
        entersAs .writeEntryChannel 1 index downEntry.image State.reset
          ∧ indexesAs .deleteEntryChannel 5 1 index State.reset)
      ∧ (phase (saving [] [] State.reset) = some .save ∧ phase State.reset ≠ some .save
        ∧ phase State.reset ≠ some .restore)
      ∧ Entry.ofImage (List.replicate 13 0) = none
      ∧ (∃ (j : Position) (x : Entry),
        j ≠ 1 ∧ withEntry.table[j] = some x ∧ x.channel = downEntry.channel ∧ x.direction = downEntry.direction)
      ∧ withEntry.table[(0 : Position)] ≠ none ∧ State.reset.table[(127 : Position)] = none := by
  refine ⟨by decide +kernel, by decide +kernel, by decide +kernel, ⟨0, downEntry, by decide +kernel⟩,
    by decide +kernel, by decide +kernel⟩

theorem witness_ChannelRead :
    (∀ index ∈ [(0 : Byte), 127, 128],
        indexesAs .readEntryChannel 3 1 index withEntry)
      ∧ withEntry.table[(0 : Position)] = some downEntry ∧ withEntry.table[(127 : Position)] = none
      ∧ (downEntry.image.length = 13 ∧ Entry.ofImage downEntry.image = some downEntry) := by decide +kernel

theorem witness_OtherTableWrites :
    (∀ s ∈ [State.reset, inFlight (toDusk .drain) State.reset],
        entersAs .writeEntryProfile 2 2 [0x3F, 0, 1, 1] s
          ∧ entersAs .writeEntryTransition 3 5 TransitionRecord.default.image s
          ∧ entersAs .writeEntryDescriptor 4 15 [0, 128, 0xFF] s
          ∧ indexesAs .deleteEntryDescriptor 5 4 15 s
          ∧ entersAs .writeEntryListhead 5 3 [15] s
          ∧ entersAs .writeEntryPattern 6 15 [0xAA] s)
      ∧ State.reset.profiles.transition = none
      ∧ (inFlight (toDusk .drain) State.reset).profiles.transition ≠ none
      ∧ ProfileRecord.ofImage .day [0x3F, 0, 1, 1] = some ⟨0x3F, 1, .dusk⟩
      ∧ (profileOfIndex 2 = State.reset.profiles.applied ∧ dormancyDue dormant = true
        ∧ dormancyDue State.reset = false)
      ∧ TransitionRecord.ofImage 5 TransitionRecord.default.image = some TransitionRecord.default
      ∧ Descriptor.ofImage [0, 128, 0xFF] = some ⟨0, 128, none⟩ := by decide +kernel

/-- The first index beyond each table, and an image out of range of each table that has one. -/
theorem witness_TableWritesRefused :
    (entersAs .writeEntryProfile 2 3 [0, 0, 0, 0] State.reset
        ∧ entersAs .writeEntryTransition 3 6 TransitionRecord.default.image State.reset
        ∧ entersAs .writeEntryDescriptor 4 16 [0, 1, 0xFF] State.reset
        ∧ entersAs .writeEntryListhead 5 4 [0] State.reset
        ∧ entersAs .writeEntryPattern 6 16 [0] State.reset
        ∧ indexesAs .deleteEntryDescriptor 5 4 16 State.reset)
      ∧ (entersAs .writeEntryProfile 2 2 [0x40, 0, 0, 0] State.reset
        ∧ ProfileRecord.ofImage .day [0x40, 0, 0, 0] = none)
      ∧ (entersAs .writeEntryTransition 3 0 (List.replicate 9 2) State.reset
        ∧ TransitionRecord.ofImage 0 (List.replicate 9 2) = none)
      ∧ (entersAs .writeEntryDescriptor 4 0 [0, 0, 0xFF] State.reset
        ∧ Descriptor.ofImage [0, 0, 0xFF] = none) := by decide +kernel

theorem witness_TableReads :
    ∀ beyond ∈ [false, true],
      let k : Byte := if beyond then 1 else 0
      indexesAs .readEntryProfile 3 2 (2 + k) State.reset
        ∧ indexesAs .readEntryTransition 3 3 (5 + k) State.reset
        ∧ indexesAs .readEntryDescriptor 3 4 (15 + k) State.reset
        ∧ indexesAs .readEntryListhead 3 5 (3 + k) State.reset
        ∧ indexesAs .readEntryPattern 3 6 (15 + k) State.reset
        ∧ indexesAs .readEntryRetention 3 7 (31 + k) State.reset := by decide +kernel

theorem witness_ContextOperations :
    (∀ index ∈ [(0 : Byte), 127, 128],
        (asked [0x06, 9, index]).arguments.head? = some index
          ∧ executesAs .readContext [0x06, 9, index] State.reset
          ∧ executesAs .clearContext [0x07, 9, index] State.reset)
      ∧ (workingContext 127 State.reset = some (.store 127)
        ∧ getContext (.store 127) State.reset = some Context.blank ∧ tableLocked State.reset = false)
      ∧ tableLocked (saving [] [] State.reset) = true
      ∧ (workingContext 0 (nightState false) = some (.slot 0)
        ∧ getContext (.slot 0) (nightState false) = some liveContext
        ∧ workingContext 1 (nightState false) = none ∧ tableLocked (nightState false) = false) := by decide +kernel

theorem witness_OtherOperations :
    (∀ code ∈ [(0 : Byte), 2, 3],
        executesAs .setProfile [0x08, 9, code] State.reset
          ∧ (asked [0x08, 9, code]).arguments.head? = some code)
      ∧ (executesAs .mark [0x09, 9] State.reset ∧ executesAs .restart [0x0F, 9] State.reset)
      ∧ ([1, 0x80000000].all fun v =>
        executesAs .clearEvents (0x0A :: 9 :: bytes32 v) State.reset
          && decide (maskOperand (asked (0x0A :: 9 :: bytes32 v)) = some v)) = true
      ∧ (∀ mask ∈ [(63 : Byte), 64],
        executesAs .clearSpurErrors [0x0B, 9, mask] State.reset
          ∧ executesAs .resumeSpur [0x0C, 9, mask] State.reset
          ∧ (asked [0x0B, 9, mask]).arguments.head? = some mask)
      ∧ (∀ n : SpurId, State.reset.spurs[n].engine.claimWaiting = false)
      ∧ (executesAs .resumeSpur [0x0C, 9, 1] (engineAt .stalled .waiting none none none)
        ∧ (let s := onS0 fun sp => { sp with engine := ⟨.stalled, none, none, none, true⟩ }
          executesAs .resumeSpur [0x0C, 9, 1] s ∧ s.spurs[(0 : SpurId)].engine.state = .stalled
            ∧ ∀ m : SpurId, m ≠ 0 → s.spurs[m].engine.claimWaiting = false)) := by
  decide +kernel

theorem witness_CheckStartAndStop :
    (∀ s ∈ [State.reset, presentAs .present none 16 .idle 1, claiming],
        executesAs .checkStart [0x0D, 9] s ∧ executesAs .checkStop [0x0E, 9] s)
      ∧ claiming.check.outcome = .waiting
      ∧ (State.reset.check.outcome ≠ .waiting ∧ State.reset.check.outcome ≠ .running
        ∧ State.reset.spurs[State.reset.check.target].presence ≠ .present)
      ∧ (let s := presentAs .present none 16 .idle 1
        s.check.outcome = .none ∧ s.spurs[s.check.target].presence = .present
          ∧ s.spurs[s.check.target].engine.state ≠ .stalled)
      ∧ ({ State.reset.check with outcome := .running } : LineCheck).outcome = .running := by decide +kernel

/-! ## Witnesses: frames and laws -/

theorem witness_EveryCommandCompletes :
    ∃ t, exec (.lineSenseChange 0 true) State.reset = .next t :=
  next_of_answered _ (by decide +kernel)

theorem witness_NamedOperations :
    (engineAt .awaitingResponse .waiting (some commandCopy) none none).spurs[(0 : SpurId)].engine.burst.all
        (fun b => !b.autoClose) = true
      ∧ (engineAt .awaitingResponse .waiting (some commandCopy) (some openBurst) none).spurs[(0 : SpurId)].engine.burst
        = some openBurst ∧ openBurst.autoClose = true := by decide +kernel

/-- A request of every operation code; of a table operation, one for each table code that takes it, and one for 0, 8 and
255; of WRITE_ATTR, one of each attribute and index with a row of its own, one without, and one with a byte missing. -/
theorem witness_RequestRows :
    (∀ k ∈ [0x01, 0x06, 0x07, 0x08, 0x09, 0x0A, 0x0B, 0x0C, 0x0D, 0x0E, 0x0F, 0x00, 0x10, 0xFF],
        (asked [BitVec.ofNat 8 k, 9]).operation.toNat = k)
      ∧ (∀ x ∈ Rules.entryRows (asked []),
        let rq := asked [BitVec.ofNat 8 x.1, 9, BitVec.ofNat 8 x.2.1]
        (rq.operation.toNat, (rq.arguments.headD 0).toNat) = (x.1, x.2.1))
      ∧ (∀ x ∈ [(0x03, 0), (0x03, 8), (0x03, 255), (0x04, 7), (0x05, 2)],
        ∀ y ∈ Rules.entryRows (asked [BitVec.ofNat 8 x.1, 9, BitVec.ofNat 8 x.2]), y.1 = x.1 → y.2.1 ≠ x.2)
      ∧ (∀ x ∈ Rules.attributeRows (asked []),
        writeOperands (asked (writeOf (BitVec.ofNat 16 x.1) (BitVec.ofNat 8 (x.2.1.getD 0)) 5))
          = some (x.1, x.2.1.getD 0, 5))
      ∧ (∀ x ∈ Rules.attributeRows (asked []), x.1 = 0x0056 → x.2.1 ≠ none ∧ x.2.1 ≠ some 4)
      ∧ writeOperands (asked (writeOf 0x0003 0 5).dropLast) = none := by decide +kernel

/-- A part with an entry, a spur with an idle engine and a request, and no step beside the request's due. -/
def busyState : State :=
  let s := presentAs .present none 16 .idle 1
  { asking [0x09, 1] s with
    table := withEntry.table
    arbiter := { s.arbiter with notice := false } }

theorem lawful_busyState : Lawful busyState := by constructor <;> decide +kernel

/-- The busy part as RSTN holds it. -/
def heldState : State := cutOff busyState

theorem lawful_heldState : Lawful heldState := by constructor <;> decide +kernel

/-- The premises of every statement of the form `Lawful s → step s = .next t → …`. -/
theorem witness_StepKeepsLaws : Lawful busyState ∧ ∃ t, step busyState = .next t :=
  ⟨lawful_busyState, next_of_answered _ (by decide +kernel)⟩

/-- The same with the part held in reset. -/
theorem witness_StepKeepsHeldLaw :
    Lawful heldState ∧ heldState.held = true ∧ ∃ t, step heldState = .next t :=
  ⟨lawful_heldState, by decide +kernel, next_of_answered _ (by decide +kernel)⟩

end Sys2Proof.Tests
end

section
/-! PROOFS. What a profile request leaves alone, then the statements on field time and the silence watch: the WAKE pin,
the wake compare, the wrap of field time, the thresholds of the watch, and the writes of those thresholds. -/

namespace Sys2Proof.FieldTime

open Sys2Proof Sys2Proof.Machine Sys2Proof.Laws

/-! ## A profile request lets no time pass

A request taken may run through the whole transition, to its END, in its own event (R133). Captures are made on the way,
so that the clock changes, but field time stays, and so does whether the part is held. -/

@[simp] theorem releaseOne_keeps_time (discard : Bool) (s : State) (r : HeldFrame) :
    (releaseOne discard s r).clock = s.clock ∧ (releaseOne discard s r).held = s.held := by
  unfold releaseOne
  constructor <;> (repeat' split) <;> simp

@[simp] theorem release_keeps_time (discard : Bool) (s : State) :
    (release discard s).clock = s.clock ∧ (release discard s).held = s.held :=
  ⟨foldl_field State.clock _ (by simp) _ _, foldl_field State.held _ (by simp) _ _⟩

@[simp] theorem capture_now (c : CaptureCause) (s : State) : (capture c s).clock.now = s.clock.now := rfl

@[simp] theorem endTransition_keeps_time (s : State) :
    (endTransition s).clock.now = s.clock.now ∧ (endTransition s).held = s.held := by
  unfold endTransition
  split <;> simp

@[simp] theorem enterSettle_keeps_time (s : State) :
    (enterSettle s).clock.now = s.clock.now ∧ (enterSettle s).held = s.held := by
  unfold enterSettle
  constructor <;> (repeat' split) <;> simp

@[simp] theorem endRestore_keeps_time (s : State) :
    (endRestore s).clock.now = s.clock.now ∧ (endRestore s).held = s.held := by
  unfold endRestore
  dsimp only
  split <;> simp

@[simp] theorem enterRestore_keeps_time (s : State) :
    (enterRestore s).clock.now = s.clock.now ∧ (enterRestore s).held = s.held := by
  unfold enterRestore
  split <;> simp [apply_ite State.clock, apply_ite Clock.now, apply_ite State.held]

@[simp] theorem enterApply_keeps_time (s : State) :
    (enterApply s).clock.now = s.clock.now ∧ (enterApply s).held = s.held := by
  unfold enterApply
  split <;> simp [apply_ite State.clock, apply_ite State.held]

@[simp] theorem enterSave_keeps_time (s : State) :
    (enterSave s).clock.now = s.clock.now ∧ (enterSave s).held = s.held := by
  unfold enterSave
  split
  · simp
  · split <;> simp [apply_ite State.clock, apply_ite Clock.now, apply_ite State.held]

@[simp] theorem stopClosing_keeps_time (s : State) (n : SpurId) :
    (stopClosing s n).clock = s.clock ∧ (stopClosing s n).held = s.held := by
  unfold stopClosing stopEngine
  constructor <;> (repeat' split) <;> simp

@[simp] theorem expireDrain_keeps_time (s : State) :
    (expireDrain s).clock.now = s.clock.now ∧ (expireDrain s).held = s.held := by
  have hclock : (allSpurs.foldl stopClosing (raise .drainExpired s)).clock = s.clock :=
    (foldl_field State.clock _ (by simp) _ _).trans (by simp)
  have hheld : (allSpurs.foldl stopClosing (raise .drainExpired s)).held = s.held :=
    (foldl_field State.held _ (by simp) _ _).trans (by simp)
  simp [expireDrain, hclock, hheld]

@[simp] theorem enterDrain_keeps_time (s : State) :
    (enterDrain s).clock.now = s.clock.now ∧ (enterDrain s).held = s.held := by
  unfold enterDrain
  constructor <;> (repeat' split) <;> simp

@[simp] theorem startTransition_keeps_time (source target : Profile) (s : State) :
    (startTransition source target s).clock.now = s.clock.now
      ∧ (startTransition source target s).held = s.held := by
  simp [startTransition]

/-- A request taken, whatever becomes of it, leaves field time and the part's being held as they were. -/
@[simp] theorem takeRequest_keeps_time (q : ProfileRequest) (s : State) :
    (takeRequest q s).1.clock.now = s.clock.now ∧ (takeRequest q s).1.held = s.held := by
  unfold takeRequest requestAtRest requestInFlight
  constructor <;> (repeat' split) <;> simp

/-! ## The WAKE pin, the wake compare and the wrap (R158, R163, R164) -/

/-- A change of the WAKE pin is an edge exactly when it goes from the inactive level to the active one. -/
theorem wakeEdge_iff (level : Bool) (s : State) :
    (wakeActive level s && !wakeActive s.pins.wake s) = true
      ↔ level = !s.clock.wakeActiveLow ∧ s.pins.wake = s.clock.wakeActiveLow := by
  have hlevels : ∀ new old low : Bool, (new != low && !(old != low)) = true ↔ new = !low ∧ old = low := by decide
  exact hlevels level s.pins.wake s.clock.wakeActiveLow

theorem compareDue_iff (s : State) :
    compareDue s = true ↔ s.clock.compareArmed = true ∧ s.clock.compareTarget.toNat ≤ s.clock.now.toNat := by
  simp [compareDue]

/-- The compare fires: its request is taken, to WAKE_TARGET as it stands, after WAKE_TIME. -/
theorem fireCompare_eq (s : State) :
    fireCompare s = (takeRequest ⟨.wakeTime, s.profiles.wakeTarget⟩
      (raise .wakeTime { s with clock := { s.clock with compareArmed := false } })).1 := rfl

theorem fireCompare_keeps_time (s : State) :
    (fireCompare s).clock.now = s.clock.now ∧ (fireCompare s).held = s.held := by
  simp [fireCompare_eq]

/-- The millisecond after the last field time: the count is 0 again, and TIME_WRAP is raised. -/
theorem passMillisecond_lastTime {s : State} (htime : s.clock.now = lastTime) (hheld : s.held = false) :
    passMillisecond s = raise .timeWrap { s with clock := { s.clock with now := 0 } } := by
  have hzero : s.clock.now + 1 = 0 := by rw [htime]; decide
  rw [passMillisecond, if_pos htime, unlessHeld_of_not_held _ (advanceTime s) hheld,
    advanceTime, hzero]

/-- TIME_WRAP at the last field time: the compare fires if it is armed, and the millisecond passes after it. -/
theorem exec_timeWrap_lastTime {s : State} (htime : s.clock.now = lastTime) (hheld : s.held = false) :
    exec .timeWrap s
      = .next (passMillisecond (if s.clock.compareArmed then fireCompare s else s)) := by
  have hexec : exec .timeWrap s = execTimeWrap s := rfl
  rw [hexec, execTimeWrap, if_pos htime, unlessHeld_of_not_held _ _ hheld, fireIfDue_lastTime htime]

/-- The edge's consequences, or the recorded level alone (R160, R164). -/
theorem wakePinEdgeRequests : Rules.WakePinEdgeRequests := by
  intro level s hheld
  have hexec : exec (.wakePinEdge level) s = execWakePinEdge level s := rfl
  have hact : unlessHeld takeWakeEdge (recordWake level s) = takeWakeEdge (recordWake level s) :=
    unlessHeld_of_not_held _ _ hheld
  rw [hexec, execWakePinEdge, hact]
  exact ite_congr (propext (wakeEdge_iff level s)) (fun _ => rfl) (fun _ => rfl)

/-- The compare fires where it is due, and only there (R163). -/
theorem wakeCompareFires : Rules.WakeCompareFires := by
  intro s hheld
  have hexec : exec .wakeCompareFire s = .next (unlessHeld fireIfDue s) := rfl
  rw [hexec, unlessHeld_of_not_held _ _ hheld, fireIfDue, apply_ite Host.Outcome.next]
  exact ite_congr (propext (compareDue_iff s)) (fun _ => rfl) (fun _ => rfl)

/-- After the compare has fired it is still the last field time, so the same millisecond wraps it (R158; log 20). -/
theorem timeWrapsToZero : Rules.TimeWrapsToZero := by
  intro s hheld
  refine ⟨fun htime hunarmed => ?_, fun htime harmed => ?_, fun htime => ?_⟩
  · rw [exec_timeWrap_lastTime htime hheld, hunarmed]
    exact congrArg _ (passMillisecond_lastTime htime hheld)
  · obtain ⟨hnow, hstays⟩ := fireCompare_keeps_time s
    rw [exec_timeWrap_lastTime htime hheld, harmed]
    exact congrArg _ (passMillisecond_lastTime (hnow.trans htime) (hstays.trans hheld))
  · have hexec : exec .timeWrap s = execTimeWrap s := rfl
    exact hexec.trans (congrArg _ (if_neg htime))

/-- Settles O27: each of the three events by its own rule. The wrap with an armed compare turns on a profile request
letting no time pass. -/
theorem fieldTimeEvents : Obligations.FieldTimeEvents :=
  ⟨wakePinEdgeRequests, wakeCompareFires, timeWrapsToZero⟩

/-! ## The thresholds of the silence watch (R165, R167, R168) -/

/-- The quiet step is taken in COUNTING once the quiet threshold has run. -/
theorem quietIfDue_of_run {s : State} (hstage : s.watch.stage = .counting)
    (hrun : s.watch.quietThreshold ≤ elapsed s.watch.episodeStart s.clock.now) : quietIfDue s = takeQuiet s := by
  simp [quietIfDue, quietDue, expired, hstage, hrun]

/-- In another stage, or before then, it is not. -/
theorem quietIfDue_of_early {s : State}
    (hearly : s.watch.stage ≠ .counting ∨ elapsed s.watch.episodeStart s.clock.now < s.watch.quietThreshold) :
    quietIfDue s = s := by
  rcases hearly with hstage | hrun
  · simp [quietIfDue, quietDue, hstage]
  · simp [quietIfDue, quietDue, expired, Nat.not_le.mpr hrun]

/-- The action step is taken in QUIET, in STAGED mode, once the action threshold has run. -/
theorem actionIfDue_of_run {s : State} (hstaged : s.watch.direct = false) (hstage : s.watch.stage = .quiet)
    (hrun : s.watch.actionThreshold ≤ elapsed s.watch.quietTime s.clock.now) : actionIfDue s = takeAction s := by
  simp [actionIfDue, actionDue, expired, hstaged, hstage, hrun]

/-- In another stage, or before then, it is not. -/
theorem actionIfDue_of_early {s : State}
    (hearly : s.watch.stage ≠ .quiet ∨ elapsed s.watch.quietTime s.clock.now < s.watch.actionThreshold) :
    actionIfDue s = s := by
  rcases hearly with hstage | hrun
  · simp [actionIfDue, actionDue, hstage]
  · simp [actionIfDue, actionDue, expired, Nat.not_le.mpr hrun]

theorem exec_quietThresholdExpiry {s : State} (hheld : s.held = false) :
    exec .quietThresholdExpiry s = .next (quietIfDue s) :=
  congrArg Host.Outcome.next (unlessHeld_of_not_held quietIfDue s hheld)

theorem exec_actionThresholdExpiry {s : State} (hheld : s.held = false) :
    exec .actionThresholdExpiry s = .next (actionIfDue s) :=
  congrArg Host.Outcome.next (unlessHeld_of_not_held actionIfDue s hheld)

/-- The quiet step in STAGED mode: QUIET, from now on. -/
theorem takeQuiet_of_staged {s : State} (hstaged : s.watch.direct = false) :
    takeQuiet s
      = { raise .trunkQuiet (capture .trunkQuiet s) with
          watch := { s.watch with stage := .quiet, quietTime := s.clock.now } } :=
  if_neg (ne_true_of_eq_false hstaged)

/-- The quiet step in DIRECT mode goes on to the action. -/
theorem takeQuiet_of_direct {s : State} (hdirect : s.watch.direct = true) :
    takeQuiet s = takeAction (raise .trunkQuiet (capture .trunkQuiet s)) :=
  if_pos hdirect

/-- The action step raises TRUNK_ACTION and makes the stage DONE, and then takes the action of the settings (log 14). -/
theorem takeAction_eq (s : State) :
    takeAction s = watchAct { raise .trunkAction s with watch := { s.watch with stage := .done } } := rfl

theorem watchAct_of_none {s : State} (hact : s.watch.action = .none) : watchAct s = s := by
  rw [watchAct, hact]

theorem watchAct_of_fallback {s : State} (hact : s.watch.action = .fallback) :
    watchAct s = (takeRequest ⟨.trunkWatch, s.watch.fallback⟩ s).1 := by
  rw [watchAct, hact]; rfl

theorem watchAct_of_reset {s : State} (hact : s.watch.action = .reset) : watchAct s = ownReset s := by
  rw [watchAct, hact]

/-- STAGED mode and, in DIRECT mode, each of the three actions (R167, R168). -/
theorem quietThresholdExpires : Rules.QuietThresholdExpires := by
  intro s hheld hstage hrun quiet
  have hexec : exec .quietThresholdExpiry s = .next (takeQuiet s) := by
    rw [exec_quietThresholdExpiry hheld, quietIfDue_of_run hstage hrun]
  have hdirect (h : s.watch.direct = true) : exec .quietThresholdExpiry s = .next (takeAction quiet) :=
    hexec.trans (congrArg _ (takeQuiet_of_direct h))
  refine ⟨fun h => ?_, fun h hact => ?_, fun h hact => ?_, fun h hact => ?_⟩
  · exact hexec.trans (congrArg _ (takeQuiet_of_staged h))
  · exact (hdirect h).trans (congrArg _ (watchAct_of_none hact))
  · exact (hdirect h).trans (congrArg _ (watchAct_of_fallback hact))
  · exact (hdirect h).trans (congrArg _ (watchAct_of_reset hact))

/-- Each of the three actions at the second threshold (R167, R168). -/
theorem actionThresholdExpires : Rules.ActionThresholdExpires := by
  intro s hheld hstaged hstage hrun acted
  have hexec : exec .actionThresholdExpiry s = .next (watchAct acted) := by
    rw [exec_actionThresholdExpiry hheld, actionIfDue_of_run hstaged hstage hrun, takeAction_eq]
  refine ⟨fun hact => ?_, fun hact => ?_, fun hact => ?_⟩
  · exact hexec.trans (congrArg _ (watchAct_of_none hact))
  · exact hexec.trans (congrArg _ (watchAct_of_fallback hact))
  · exact hexec.trans (congrArg _ (watchAct_of_reset hact))

/-- Settles O28: a threshold that has run takes its step, and mode and action say where the step leads. -/
theorem silenceWatchThresholds : Obligations.SilenceWatchThresholds :=
  ⟨quietThresholdExpires, actionThresholdExpires⟩

/-! ## The threshold writes (R165, R167; log 13) -/

/-- A write of a writable index of TRUNK_WATCH passes the shared checks. -/
theorem checkWrite_trunkWatch {rq : Request} {index : Nat} {v : Value} (hindex : index < 6)
    (hw : writeOperands rq = some (0x0056, index, v)) : checkWrite rq = .ok (.trunkWatch, index, v) := by
  have hlt : index < 7 := by omega
  simp [checkWrite, hw, Attr.ofIdentifier, Attr.indexes, Attr.writable, hindex, hlt]

/-- A write that passed the shared checks: a change that the owner makes is answered OK before the effect; one that it
refuses is BAD_VALUE, without the effect. -/
theorem writeThen_of_checked {rq : Request} {a : Attr} {index : Nat} {v : Value}
    (change : Value → State → Option State) (effect : State → State) (s : State)
    (hw : checkWrite rq = .ok (a, index, v)) :
    writeThen rq (fun v s => accepted (change v s) s) effect s
      = (change v s).elim (answer rq .badValue [] s) (fun t => effect (answer rq .ok [] t)) := by
  cases hc : change v s <;> simp [writeThen, hw, hc, accepted, reply]

/-- WRITE_QUIET_THRESHOLD executed: the step is judged with the threshold set and the answer appended. -/
theorem exec_writeQuietThreshold {rq : Request} {v : Value} {s : State}
    (hx : Executes (.writeQuietThreshold rq) rq s) (hw : writeOperands rq = some (0x0056, 2, v)) :
    exec (.writeQuietThreshold rq) s = .next
      (if 1 ≤ v.toNat ∧ v.toNat ≤ 65535 then
        quietIfDue (responded rq .ok [] { s with watch := { s.watch with quietThreshold := v.toNat } })
      else responded rq .badValue [] s) := by
  have hexec : exec (.writeQuietThreshold rq) s = execWriteQuietThreshold rq s := rfl
  rw [hexec, execWriteQuietThreshold, onHead_of_executes _ hx,
    writeThen_of_checked _ _ _ (checkWrite_trunkWatch (by decide) hw), writeQuiet]
  split <;> rfl

/-- WRITE_ACTION_THRESHOLD executed: the step is judged with the threshold set and the answer appended. -/
theorem exec_writeActionThreshold {rq : Request} {v : Value} {s : State}
    (hx : Executes (.writeActionThreshold rq) rq s) (hw : writeOperands rq = some (0x0056, 3, v)) :
    exec (.writeActionThreshold rq) s = .next
      (if 1 ≤ v.toNat ∧ v.toNat ≤ 65535 then
        actionIfDue (responded rq .ok [] { s with watch := { s.watch with actionThreshold := v.toNat } })
      else responded rq .badValue [] s) := by
  have hexec : exec (.writeActionThreshold rq) s = execWriteActionThreshold rq s := rfl
  rw [hexec, execWriteActionThreshold, onHead_of_executes _ hx,
    writeThen_of_checked _ _ _ (checkWrite_trunkWatch (by decide) hw), writeAction]
  split <;> rfl

/-- TRUNK_ACTION's flag is bit 17 of the event status, set where it is recorded (R188). -/
theorem raisedStatus_trunkAction (a : Agent) :
    (raisedStatus .trunkAction a).getLsbD 17 = (a.status.getLsbD 17 || a.record.getLsbD 17) := by
  have hbit : (Event.bit .trunkAction).getLsbD 17 = true := by decide
  rw [raisedStatus, BitVec.getLsbD_or, BitVec.getLsbD_and, hbit, Bool.true_and]

/-- Settles O41: a value in range sets the threshold and is judged as at the expiry; where the new time has run, the
step that is taken keeps the answer. -/
theorem thresholdWrites : Obligations.ThresholdWrites := by
  intro rq v s inRange
  constructor
  · intro hx hw set
    have hset (hin : inRange) : exec (.writeQuietThreshold rq) s = .next (quietIfDue set) :=
      (exec_writeQuietThreshold hx hw).trans (congrArg _ (if_pos hin))
    refine ⟨fun hin => ?_, fun hin hearly => ?_, fun hin hstage hrun hstaged => ?_, fun hout => ?_⟩
    · exact (hset hin).trans (exec_quietThresholdExpiry (s := set) hx.1).symm
    · rw [hset hin, quietIfDue_of_early hearly]
    · have hstep : quietIfDue set = _ :=
        (quietIfDue_of_run (s := set) hstage hrun).trans (takeQuiet_of_staged hstaged)
      exact ⟨_, (hset hin).trans (congrArg _ hstep), ⟨rfl, rfl⟩, rfl, rfl, rfl⟩
    · exact (exec_writeQuietThreshold hx hw).trans (congrArg _ (if_neg hout))
  · intro hx hw set
    have hset (hin : inRange) : exec (.writeActionThreshold rq) s = .next (actionIfDue set) :=
      (exec_writeActionThreshold hx hw).trans (congrArg _ (if_pos hin))
    refine ⟨fun hin => ?_, fun hin hearly => ?_, fun hin hstage hstaged hact hrun => ?_, fun hout => ?_⟩
    · exact (hset hin).trans (exec_actionThresholdExpiry (s := set) hx.1).symm
    · rw [hset hin, actionIfDue_of_early hearly]
    · have hstep : actionIfDue set = _ :=
        (actionIfDue_of_run (s := set) hstaged hstage hrun).trans (watchAct_of_none hact)
      exact ⟨_, (hset hin).trans (congrArg _ hstep), ⟨rfl, rfl⟩, rfl, raisedStatus_trunkAction s.agent⟩
    · exact (exec_writeActionThreshold hx hw).trans (congrArg _ (if_neg hout))

end Sys2Proof.FieldTime
end

section
/-! PROOFS. The statements on line checks: the payload of a TEST frame under each pattern, and the two operations that
start and stop a check. -/

namespace Sys2Proof.LineChecks

open Sys2Proof Sys2Proof.Machine Sys2Proof.Laws

/-! ## The PSEUDO register (R172) -/

/-- Shifts in a row add up. -/
theorem shifted_add (a b : Nat) (r : BitVec 9) : Rules.shifted (a + b) r = Rules.shifted b (Rules.shifted a r) := by
  induction a generalizing r with
  | zero => rw [Nat.zero_add]; rfl
  | succ a ih => rw [Nat.succ_add]; exact ih (pseudoShift r)

/-- The feedback bit enters at bit 0. -/
theorem pseudoShift_zero (r : BitVec 9) : (pseudoShift r).getLsbD 0 = (r.getLsbD 8 != r.getLsbD 4) := by
  simp [pseudoShift]

/-- Every other bit moves one place up. -/
theorem pseudoShift_succ (r : BitVec 9) {k : Nat} (hk : k < 8) : (pseudoShift r).getLsbD (k + 1) = r.getLsbD k := by
  have hin : k < 9 := by omega
  have hout : k + 1 < 9 := by omega
  simp [pseudoShift, hin, hout]

/-- Bit i of a byte that takes one more output: the output at bit 0, the bits taken before it one place up. -/
theorem taken_getLsbD (taken : Byte) (b : Bool) {i : Nat} (hi : i < 8) :
    ((taken <<< 1) ||| (BitVec.ofBool b).setWidth 8).getLsbD i = if i = 0 then b else taken.getLsbD (i - 1) := by
  cases i with
  | zero => simp
  | succ i => simp [hi, show i < 8 by omega]

/-- Taking k outputs shifts the register k times. -/
theorem pseudoBits_register (k : Nat) (taken : Byte) (r : BitVec 9) :
    (pseudoBits k taken r).2 = Rules.shifted k r := by
  induction k generalizing taken r with
  | zero => rfl
  | succ k ih => exact ih _ _

/-- After k outputs the low k bits are those outputs, the first one highest, and the bits taken before stand above. -/
theorem pseudoBits_getLsbD (k : Nat) (taken : Byte) (r : BitVec 9) {i : Nat} (hi : i < 8) :
    (pseudoBits k taken r).1.getLsbD i
      = if i < k then (Rules.shifted (k - 1 - i) r).getLsbD 8 else taken.getLsbD (i - k) := by
  induction k generalizing taken r with
  | zero => rfl
  | succ k ih =>
    rw [pseudoBits, ih]
    obtain hlt | rfl | hgt := Nat.lt_trichotomy i k
    · have hsub : k + 1 - 1 - i = (k - 1 - i) + 1 := by omega
      rw [if_pos hlt, if_pos (by omega), hsub, Rules.shifted]
    · rw [if_neg (by omega), if_pos (by omega), taken_getLsbD _ _ (by omega)]
      simp [Rules.shifted]
    · rw [if_neg (by omega), if_neg (by omega), taken_getLsbD _ _ (by omega), if_neg (by omega), Nat.sub_sub]

/-- A payload of a number of bytes has that length. -/
theorem pseudoPayload_length (length : Nat) (r : BitVec 9) : (pseudoPayload length r).1.length = length := by
  induction length generalizing r with
  | zero => rfl
  | succ length ih => simp [pseudoPayload, ih]

/-- It leaves the register 8 shifts a byte on. -/
theorem pseudoPayload_register (length : Nat) (r : BitVec 9) :
    (pseudoPayload length r).2 = Rules.shifted (8 * length) r := by
  induction length generalizing r with
  | zero => rfl
  | succ length ih => rw [pseudoPayload, ih, pseudoBits_register, ← shifted_add, Nat.mul_succ, Nat.add_comm]

/-- Byte i is made of the 8 outputs that follow the first 8 * i. -/
theorem pseudoPayload_getElem? {length i : Nat} (r : BitVec 9) (hi : i < length) :
    (pseudoPayload length r).1[i]? = some (pseudoBits 8 0 (Rules.shifted (8 * i) r)).1 := by
  induction length generalizing i r with
  | zero => omega
  | succ length ih =>
    cases i with
    | zero => rfl
    | succ i =>
      have hshift : Rules.shifted (8 * i) (pseudoBits 8 0 r).2 = Rules.shifted (8 * (i + 1)) r := by
        rw [pseudoBits_register, ← shifted_add, Nat.mul_succ, Nat.add_comm]
      rw [← hshift, ← ih _ (by omega)]
      rfl

/-! ## The payload of a TEST frame (R172) -/

/-- Under PSEUDO the payload comes from the register. -/
theorem checkPayload_of_pseudo {c : LineCheck} (h : c.pattern = .pseudo) :
    checkPayload c = pseudoPayload c.length c.register := by
  simp [checkPayload, h]

/-- Under any other pattern each byte is the pattern's, and the register stays (log 34). -/
theorem checkPayload_of_not_pseudo {c : LineCheck} (h : c.pattern ≠ .pseudo) :
    checkPayload c = ((List.range c.length).map (patternByte c.pattern c.custom c.number), c.register) := by
  unfold checkPayload
  split
  · contradiction
  · rfl

/-- Byte i of the payload under a pattern other than PSEUDO. -/
theorem checkPayload_getElem? {c : LineCheck} {p : Pattern} {i : Nat} (hp : c.pattern = p) (hne : p ≠ .pseudo)
    (hi : i < c.length) : (checkPayload c).1[i]? = some (patternByte p c.custom c.number i) := by
  subst hp
  simp [checkPayload_of_not_pseudo hne, hi]

/-- The payload has the set length. -/
theorem checkPayload_length (c : LineCheck) : (checkPayload c).1.length = c.length := by
  by_cases h : c.pattern = .pseudo
  · rw [checkPayload_of_pseudo h, pseudoPayload_length]
  · simp [checkPayload_of_not_pseudo h]

/-- The register after the payload is built. -/
theorem checkPayload_register (c : LineCheck) :
    (checkPayload c).2 = if c.pattern = .pseudo then Rules.shifted (8 * c.length) c.register else c.register := by
  split
  case isTrue h => rw [checkPayload_of_pseudo h, pseudoPayload_register]
  case isFalse h => rw [checkPayload_of_not_pseudo h]

/-- Bit 7 - k of a PSEUDO byte is output k of the register before the byte. -/
theorem pseudoByte_getLsbD (r : BitVec 9) (m : Nat) {k : Nat} (hk : k < 8) :
    (pseudoBits 8 0 (Rules.shifted m r)).1.getLsbD (7 - k) = (Rules.shifted (m + k) r).getLsbD 8 := by
  have hsub : 8 - 1 - (7 - k) = k := by omega
  rw [pseudoBits_getLsbD _ _ _ (by omega), if_pos (by omega), hsub, shifted_add]

/-- Settles O25: the bytes of the plain patterns are read off the pattern, and those of PSEUDO by induction on the bytes
and on the outputs of one byte. -/
theorem testPatterns : Obligations.TestPatterns := by
  refine ⟨checkPayload_length, fun c i hi => ⟨?zeros, ?ones, ?alternate, ?count, ?custom, ?pseudo⟩,
    checkPayload_register, fun c => checkPayload_of_pseudo,
    fun r => ⟨pseudoShift_zero r, fun k => pseudoShift_succ r⟩, by decide⟩
  case zeros | ones | alternate | count => exact fun hp => checkPayload_getElem? hp (by decide) hi
  case custom =>
    intro hp
    have hmod : i % 16 < 16 := Nat.mod_lt _ (by decide)
    rw [checkPayload_getElem? hp (by decide) hi]
    simp [patternByte, hmod]
  case pseudo =>
    intro hp
    rw [checkPayload_of_pseudo hp]
    exact ⟨_, pseudoPayload_getElem? _ hi, fun k hk => pseudoByte_getLsbD _ _ hk⟩

/-! ## An execution and the request queue

The request leaves the queue before its operation runs (R181). The engine of a granted claim reads nothing of the
queue, so that the order of the two does not matter. -/

/-- The TEST frame given is the same, its source address included. -/
theorem giveTest_popRequest (n : SpurId) (s : State) : giveTest n (popRequest s) = popRequest (giveTest n s) := rfl

/-- The events of a finished check meet the same event status and notice flag. -/
theorem finishCheck_popRequest (n : SpurId) (s : State) :
    finishCheck n (popRequest s) = popRequest (finishCheck n s) := by
  by_cases herrors : 0 < s.check.mismatched.toNat + s.check.missing.toNat <;>
    simp [finishCheck, herrors, raise, modifySpur, popRequest, raisedStatus, raisedNotice]

/-- So the next TEST or the finish comes out the same. -/
theorem nextTest_popRequest (n : SpurId) (s : State) : nextTest n (popRequest s) = popRequest (nextTest n s) := by
  obtain hlt | hle := Nat.lt_or_ge s.check.number s.check.count
  · rw [nextTest_of_lt hlt, nextTest_of_lt (s := popRequest s) hlt, giveTest_popRequest]
  · rw [nextTest_of_le hle, nextTest_of_le (s := popRequest s) hle, finishCheck_popRequest]

/-- A claim is due, and granted, whatever the request queue holds. -/
theorem grantIfDue_popRequest (n : SpurId) (s : State) :
    grantIfDue n (popRequest s) = popRequest (grantIfDue n s) := by
  by_cases hdue : claimDue n s = true
  · rw [grantIfDue, grantIfDue, if_pos hdue, if_pos (show claimDue n (popRequest s) = true from hdue)]
    rw [grantClaim, grantClaim, ← nextTest_popRequest]
    rfl
  · rw [grantIfDue, grantIfDue, if_neg hdue, if_neg (show ¬claimDue n (popRequest s) = true from hdue)]

/-- CHECK_START accepted acts on the target and the unit, not on the request queue. -/
theorem acceptCheck_popRequest (s : State) : acceptCheck (popRequest s) = popRequest (acceptCheck s) := by
  rw [acceptCheck, acceptCheck, ← grantIfDue_popRequest]
  rfl

/-- A response appended after the request has left the queue. -/
theorem reply_popRequest (rq : Request) (status : Status) (s : State) :
    reply rq (popRequest s, status) = responded rq status [] s := rfl

/-! ## CHECK_START (R173) -/

/-- A check holds the unit while it waits or runs. -/
theorem checkBusy_iff (s : State) :
    checkBusy s = true ↔ s.check.outcome = .waiting ∨ s.check.outcome = .running := by
  simp [checkBusy]

/-- CHECK_START executed answers what its checks decide. -/
theorem exec_checkStart {rq : Request} {s : State} (hx : Executes (.checkStart rq) rq s) :
    exec (.checkStart rq) s = .next (reply rq (checkStart (popRequest s))) := by
  have hexec : exec (.checkStart rq) s = execCheckStart rq s := rfl
  rw [hexec, execCheckStart, onHead_of_executes _ hx]

/-- While a check waits or runs CHECK_START is BUSY. -/
theorem checkStart_of_busy {s : State} (h : checkBusy s = true) : checkStart s = (s, .busy) := if_pos h

/-- With the target not PRESENT, or STALLED, it is refused. -/
theorem checkStart_of_not_ready {s : State} (h : ¬checkBusy s = true)
    (hready : ¬(s.spurs[s.check.target].presence = .present ∧ s.spurs[s.check.target].engine.state ≠ .stalled)) :
    checkStart s = (s, .refused .spurNotReady) :=
  (if_neg h).trans (if_pos ((Decidable.not_and_iff_not_or_not.mp hready).imp_right Decidable.not_not.mp))

/-- Otherwise it is accepted. -/
theorem checkStart_of_ready {s : State} (h : ¬checkBusy s = true)
    (hready : s.spurs[s.check.target].presence = .present ∧ s.spurs[s.check.target].engine.state ≠ .stalled) :
    checkStart s = (acceptCheck s, .ok) :=
  (if_neg h).trans (if_neg fun hnot => hnot.elim (absurd hready.1) hready.2)

/-! ## CHECK_STOP (R178) -/

/-- CHECK_STOP executed is answered OK in every outcome. -/
theorem exec_checkStop {rq : Request} {s : State} (hx : Executes (.checkStop rq) rq s) :
    exec (.checkStop rq) s = .next (reply rq (checkStop (popRequest s), .ok)) := by
  have hexec : exec (.checkStop rq) s = execCheckStop rq s := rfl
  rw [hexec, execCheckStop, onHead_of_executes _ hx]

/-- A receiver is released exactly from OWN (R36). -/
theorem release_eq (r : Receiver) : r.release = if r = .own then .waiting else r := by
  cases r <;> rfl

/-- A WAITING check has its claim withdrawn. -/
theorem checkStop_of_waiting {s : State} (h : s.check.outcome = .waiting) :
    checkStop s
      = modifySpur s.check.target (fun sp => { sp with engine := { sp.engine with claimWaiting := false } })
          (stopCheck s) := by
  simp [checkStop, h]

/-- A RUNNING check has its TEST or its echo wait cut off. -/
theorem checkStop_of_running {s : State} (h : s.check.outcome = .running) :
    checkStop s
      = modifySpur s.check.target (fun sp => { sp with rx := sp.rx.release, engine := sp.engine.idled })
          (stopCheck s) := by
  simp [checkStop, h]

/-- With no check waiting or running nothing is stopped. -/
theorem checkStop_of_not_busy {s : State} (h : ¬(s.check.outcome = .waiting ∨ s.check.outcome = .running)) :
    checkStop s = s := by
  unfold checkStop
  split
  next hw => exact absurd (.inl hw) h
  next hr => exact absurd (.inr hr) h
  next => rfl

/-- Settles O49: the checks of CHECK_START in their order, and CHECK_STOP by the outcome it finds. -/
theorem checkStartAndStop : Obligations.CheckStartAndStop := by
  intro rq s n busy ready stopped
  have hbusy : checkBusy s = true ↔ busy := checkBusy_iff s
  refine ⟨fun hx => ⟨fun hb => ?busy, fun hb hr => ?refused, fun hb hr => ?accepted⟩,
    fun hx => ⟨fun hw => ?waiting, fun hr => ?running, fun hb => ?nothing⟩⟩
  case busy => rw [exec_checkStart hx, checkStart_of_busy (s := popRequest s) (hbusy.mpr hb), reply_popRequest]
  case refused =>
    rw [exec_checkStart hx, checkStart_of_not_ready (s := popRequest s) (mt hbusy.mp hb) hr, reply_popRequest]
  case accepted =>
    rw [exec_checkStart hx, checkStart_of_ready (s := popRequest s) (mt hbusy.mp hb) hr, acceptCheck_popRequest,
      reply_popRequest]
    rfl
  case waiting =>
    rw [exec_checkStop hx, checkStop_of_waiting (s := popRequest s) hw]
    rfl
  case running =>
    rw [exec_checkStop hx, checkStop_of_running (s := popRequest s) hr, ← release_eq]
    rfl
  case nothing => rw [exec_checkStop hx, checkStop_of_not_busy (s := popRequest s) hb, reply_popRequest]

end Sys2Proof.LineChecks
end
